-- ==== Sys2Proof/Word.lean ====
section
/-! DEFINITION. The words of TFD: a byte (a Register Value, an address tag) and a record (`00_scope` R6, R9). -/

namespace Sys2Proof

/-- A Register Value or an address tag, 8 bits, `DATA_W` and `TAG_W` (`00_scope` R6). -/
abbrev Byte := BitVec 8

/-- One input record of the block, 16 bits, `REC_W`: the tag above the data byte (`30_encoding` R60). -/
abbrev Record := BitVec 16

/-- The 19-bit signed linearized-temperature field, `FIELD_W` (`00_scope` R6). -/
abbrev Field := BitVec 19

end Sys2Proof
end

