-- ==== Sys2Proof/Config.lean ====
section
/-! DEFINITION. What is fixed for the machine: its names, its constants (`00_scope` R6), its parameters (`00_scope` R8),
and the free values, which have no body. -/

namespace Sys2Proof

/-- The four capture registers by their aliases: `hsb` is x[0], `msb` x[1], `lsb` x[2], `sr` x[3] (`10_state` R21, `00_scope` R11). -/
inductive Cap where
  | hsb | msb | lsb | sr
  deriving DecidableEq, Repr

/-- The sixteen registers of the converter chip, in address order (`20_memory` R40). -/
inductive Reg where
  | cr0 | cr1 | mask | cjhf | cjlf | fth0 | fth1 | fth2 | fth3 | cjto | cjth | cjtl | ltcbh | ltcbm | ltcbl | sr
  deriving DecidableEq, Repr

/-- The eight thermocouple types, in code order (`10_state` R26, `00_scope` R7). -/
inductive TcType where
  | b | e | j | k | n | r | s | t
  deriving DecidableEq, Repr

/-- The eight fault lines, in bit order: `fOpen` is bit 0 of the status byte, `fCjrange` bit 7 (`44_fault_decode` R152). -/
inductive FaultLine where
  | fOpen | fOvuv | fTclow | fTchigh | fCjlow | fCjhigh | fTcrange | fCjrange
  deriving DecidableEq, Repr

/-- The conversion patterns the source gives for CR0 (`10_state` R26). -/
inductive Conversion where
  | continuous | oneShot
  deriving DecidableEq, Repr

namespace Config

/-- `WRITE_FLAG`, set in the tag of a write (`00_scope` R6). -/
def writeFlag : Byte := 0x80

/-- `CR0_CONTINUOUS`, written to CR0 at initialization (`00_scope` R6). -/
def cr0Continuous : Byte := 0x80

/-- `CR0_ONESHOT`, never written by the reference behaviour (`00_scope` R6). -/
def cr0OneShot : Byte := 0x40

/-- `AVG_SEL`, bits 6:4 of CR1, meaning 4 samples (`00_scope` R6). -/
def avgSel : Byte := 0x2

/-- The averaging sample count, a constant and no parameter (`00_scope` R7; item U5 of `93_implementation_defined`). -/
def averagingSamples : Nat := 4

/-- `SIGN_WEIGHT`, 2^18 (`00_scope` R6). -/
def signWeight : Int := 262144

/-- `DISCARD_W`, the low bits of the low byte that are dropped (`00_scope` R6). -/
def discardW : Nat := 5

/-- 2^`FRAC_W`, the counts in one degree Celsius (`00_scope` R6). -/
def countsPerDegree : Nat := 128

/-- The six labels of `FAULT_LABEL` that the source does not give, a parameter of the model with the spec's defaults
(`00_scope` R8, `44_fault_decode` R153, D8; log 13). -/
structure LabelParams where
  label1 : String := "Over/Undervoltage Fault"
  label3 : String := "Thermocouple Temperature High Fault"
  label4 : String := "Cold-Junction Low Fault"
  label5 : String := "Cold-Junction High Fault"
  label6 : String := "Thermocouple Temperature Out-of-Range Fault"
  label7 : String := "Cold-Junction Out-of-Range Fault"
  deriving DecidableEq, Repr

/-- FREE VALUE `RESET_X`: what the capture registers hold after the n-th draw's reset event (`00_scope` R8, `10_state` R30; log 4). -/
opaque resetX : Nat → Cap → Byte

/-- FREE VALUE: what a use of port `T` gives while `T_OK = 0` (`10_state` R31, D6; log 5). -/
opaque unspecifiedT : Nat → Field

/-- FREE VALUE: what a use of port `F` gives while `F_OK = 0` (`10_state` R31, D6; log 5). -/
opaque unspecifiedF : Nat → Byte

/-- FREE VALUE: what a use of port `FCNT` gives while `F_OK = 0` (`10_state` R31, D6; log 5). -/
opaque unspecifiedFcnt : Nat → BitVec 4

end Config

end Sys2Proof
end

