-- ==== Sys2Proof/Syntax.lean ====
section
/-! DEFINITION. The records of TFD as syntax: one constructor per row of the opcode table (`30_encoding` R63), in the table's order.
Field names are those of format R (`30_encoding` R61): `z` is rec[14:12], `a` is rec[11:8], `d` is rec[7:0]. -/

namespace Sys2Proof

/-- A record of the opcode map (`30_encoding` R63). A row whose mask leaves bits of Z or A open carries them (log 10). -/
inductive Instr where
  /-- `RD.CR0`, tag 0x00 (`41_passthrough_records` R90). -/
  | rdCr0 (d : Byte)
  /-- `RD.CR1`, tag 0x01 (`41_passthrough_records` R91). -/
  | rdCr1 (d : Byte)
  /-- `RD.MASK`, tag 0x02 (`41_passthrough_records` R92). -/
  | rdMask (d : Byte)
  /-- `RD.CJHF`, tag 0x03 (`41_passthrough_records` R93). -/
  | rdCjhf (d : Byte)
  /-- `RD.CJLF`, tag 0x04 (`41_passthrough_records` R94). -/
  | rdCjlf (d : Byte)
  /-- `RD.FTH0`, tag 0x05 (`41_passthrough_records` R95). -/
  | rdFth0 (d : Byte)
  /-- `RD.FTH1`, tag 0x06 (`41_passthrough_records` R96). -/
  | rdFth1 (d : Byte)
  /-- `RD.FTH2`, tag 0x07 (`41_passthrough_records` R97). -/
  | rdFth2 (d : Byte)
  /-- `RD.FTH3`, tag 0x08 (`41_passthrough_records` R98). -/
  | rdFth3 (d : Byte)
  /-- `RD.CJTO`, tag 0x09 (`41_passthrough_records` R99). -/
  | rdCjto (d : Byte)
  /-- `RD.CJTH`, tag 0x0A (`41_passthrough_records` R100). -/
  | rdCjth (d : Byte)
  /-- `RD.CJTL`, tag 0x0B (`41_passthrough_records` R101). -/
  | rdCjtl (d : Byte)
  /-- `CAP.LTCBH`, tag 0x0C (`40_capture_records` R82). -/
  | capLtcbh (d : Byte)
  /-- `CAP.LTCBM`, tag 0x0D (`40_capture_records` R81). -/
  | capLtcbm (d : Byte)
  /-- `CAP.LTCBL`, tag 0x0E (`40_capture_records` R80). -/
  | capLtcbl (d : Byte)
  /-- `CAP.SR`, tag 0x0F (`40_capture_records` R83). -/
  | capSr (d : Byte)
  /-- `WR.CR0`, tag 0x80 (`41_passthrough_records` R102). -/
  | wrCr0 (d : Byte)
  /-- `WR.CR1`, tag 0x81 (`41_passthrough_records` R103). -/
  | wrCr1 (d : Byte)
  /-- `WR.MASK`, tag 0x82 (`41_passthrough_records` R104). -/
  | wrMask (d : Byte)
  /-- `WR.CJHF`, tag 0x83 (`41_passthrough_records` R105). -/
  | wrCjhf (d : Byte)
  /-- `WR.CJLF`, tag 0x84 (`41_passthrough_records` R106). -/
  | wrCjlf (d : Byte)
  /-- `WR.FTH0`, tag 0x85 (`41_passthrough_records` R107). -/
  | wrFth0 (d : Byte)
  /-- `WR.FTH1`, tag 0x86 (`41_passthrough_records` R108). -/
  | wrFth1 (d : Byte)
  /-- `WR.FTH2`, tag 0x87 (`41_passthrough_records` R109). -/
  | wrFth2 (d : Byte)
  /-- `WR.FTH3`, tag 0x88 (`41_passthrough_records` R110). -/
  | wrFth3 (d : Byte)
  /-- `WR.CJTO`, tag 0x89 (`41_passthrough_records` R111). -/
  | wrCjto (d : Byte)
  /-- `WR.CJTH`, tag 0x8A (`41_passthrough_records` R112). -/
  | wrCjth (d : Byte)
  /-- `WR.CJTL`, tag 0x8B (`41_passthrough_records` R113). -/
  | wrCjtl (d : Byte)
  /-- `RSVD.WRO`, tags 0x8C to 0x8F (`41_passthrough_records` R114). -/
  | rsvdWro (a : BitVec 4) (d : Byte)
  /-- `RSVD.RD`, tags 0x10 to 0x1F: Z = 1 (`41_passthrough_records` R115). -/
  | rsvdRd10 (a : BitVec 4) (d : Byte)
  /-- `RSVD.RD`, tags 0x20 to 0x3F: Z is 2 or 3 (`41_passthrough_records` R115). -/
  | rsvdRd20 (z : BitVec 3) (a : BitVec 4) (d : Byte)
  /-- `RSVD.RD`, tags 0x40 to 0x7F: Z is 4 to 7 (`41_passthrough_records` R115). -/
  | rsvdRd40 (z : BitVec 3) (a : BitVec 4) (d : Byte)
  /-- `RSVD.WR`, tags 0x90 to 0x9F: Z = 1 (`41_passthrough_records` R116). -/
  | rsvdWr90 (a : BitVec 4) (d : Byte)
  /-- `RSVD.WR`, tags 0xA0 to 0xBF: Z is 2 or 3 (`41_passthrough_records` R116). -/
  | rsvdWrA0 (z : BitVec 3) (a : BitVec 4) (d : Byte)
  /-- `RSVD.WR`, tags 0xC0 to 0xFF: Z is 4 to 7 (`41_passthrough_records` R116). -/
  | rsvdWrC0 (z : BitVec 3) (a : BitVec 4) (d : Byte)
  deriving DecidableEq, Repr

end Sys2Proof
end

