-- ==== Sys2Proof/Machine/State.lean ====
section
/-! DEFINITION. The state of the block and of its environment as plain data, the stops, and the state after reset. -/

namespace Sys2Proof.Machine

/-- The six output ports (`10_state` R31). -/
inductive Port where
  | t | tOk | f | fOk | fcnt | inReady
  deriving DecidableEq, Repr

/-- What happens at the block: a record arrives (`00_scope` R3), or between two records the reset event comes
(`70_reset_and_hazards` R180) or the consumer samples a port (`00_scope` R5). -/
inductive PortEvent where
  | record (r : Record)
  | reset
  | sample (p : Port)
  deriving DecidableEq, Repr

/-- The host state machine (`42_host_sequences` R135). `absent`: the configuration is not yet checked and there is no instance
(`70_reset_and_hazards` R182). `dead` is an instance in neither of the two states of R135: its construction was rejected (R136)
or failed, or it was released (R137). -/
inductive HostMode where
  | absent | uninitialized | ready | dead
  deriving DecidableEq, Repr

/-- The Device Configuration after its check; the sample count is the constant 4 (`00_scope` R7). -/
structure DeviceConfig where
  busId : Nat
  deviceId : Nat
  tcType : TcType
  deriving DecidableEq, Repr

/-- What the caller asks an instance for, before the check: identifiers that may be malformed, a type code that may be out of
range (`42_host_sequences` R136). -/
structure ConfigRequest where
  busId : Int
  deviceId : Int
  tcCode : Nat
  deriving DecidableEq, Repr

/-- A program line of the host or the consumer (`30_encoding` R66, R67); `construct` is the check of the configuration and
the creation of the instance, `discard` its release (`42_host_sequences` R136, R137; log 11). `init` is `INIT <type>`, whose type
is the one of the instance's checked configuration (`00_scope` R7; log 11). `raw` is `REC`, which takes any tag, a mapped one too:
DESIGN CHOICE, safe, log 16. -/
inductive HostOp where
  | rd (r : Reg)
  | wr (r : Reg) (b : Byte)
  | raw (tag d : Byte)
  | reset
  | sample (p : Port)
  | construct (c : ConfigRequest)
  | init
  | getTemp
  | getFaults
  | discard
  deriving DecidableEq, Repr

/-- Which act of its sequence the host does next (`42_host_sequences` R130 to R134). `tempSample` and `faultsSample` are the
samplings that end the queries; every other phase but `idle` is a register transaction that is due. -/
inductive Phase where
  | idle
  | rd (r : Reg)
  | wr (r : Reg) (b : Byte)
  | initCr0 (tc : TcType)
  | initCr1 (tc : TcType)
  | tempL | tempM | tempH | tempSample
  | faultsSr | faultsSample
  deriving DecidableEq, Repr

/-- What the transport, the chip, the outside reset and the consumer will do: a transaction completes with its two received
bytes (`20_memory` R44, R50), or fails as a whole (`60_exceptions` R161), or a reset event comes (`70_reset_and_hazards` R180),
or the consumer samples a port, whatever the host is in the middle of (`00_scope` R5). -/
inductive Event where
  | reply (rx0 rx1 : Byte)
  | fail
  | reset
  | sample (p : Port)
  deriving DecidableEq, Repr

/-- One completed transaction: two bytes sent, two received (`20_memory` R42 to R44). -/
structure Xfer where
  tx0 : Byte
  tx1 : Byte
  rx0 : Byte
  rx1 : Byte
  deriving DecidableEq, Repr

/-- What a caller or the consumer is given: results of the host operations (`42_host_sequences` R130 to R134), the two
failures (`60_exceptions` R161, R162), sampled ports (`10_state` R31). `temperature n` is n counts of 2^-7 degrees. -/
inductive Returned where
  | readByte (b : Byte)
  | written
  | constructed
  | temperature (n : Int)
  | faults (lines : List FaultLine)
  | transportFailure
  | invalidConfiguration
  | sampledT (v : Field)
  | sampledTOk (v : Bool)
  | sampledF (v : Byte)
  | sampledFOk (v : Bool)
  | sampledFcnt (v : BitVec 4)
  | sampledInReady (v : Bool)
  deriving DecidableEq, Repr

/-- The block's 36 bits are `x0` to `x3` and `v0` to `v3` (`10_state` R20 to R22); the other fields are its input port and
its environment. `handle` says whether the instance owns its transport handle and `tfd` whether its TFD exists: the three are
created and discarded together (`42_host_sequences` R137), and before and after that the 36 bits are those of
no block. INVENTORY.md lists each field with its rule. -/
structure State where
  x0 : Byte
  x1 : Byte
  x2 : Byte
  x3 : Byte
  v0 : Bool
  v1 : Bool
  v2 : Bool
  v3 : Bool
  input : List PortEvent
  mode : HostMode
  cfg : Option DeviceConfig
  handle : Bool
  tfd : Bool
  phase : Phase
  todo : List HostOp
  events : List Event
  bus : List Xfer
  returned : List Returned
  draws : Nat
  deriving DecidableEq, Repr

/-- Stops of the host, never of a record's meaning: the block raises nothing (`60_exceptions` R160). All are safe: the model stops
where the spec gives the host no move. -/
inductive Fault where
  /-- Raised by `GETTEMP` or `GETFAULTS` of a host that is not Ready (`42_host_sequences` R135, "defined only in Ready"). Safe. -/
  | notReady
  /-- Raised by `INIT` of a Ready instance (`42_host_sequences` R135, "no re-initialization operation"). Safe. -/
  | alreadyInitialized
  /-- Raised by every line but `construct` where no instance stands: there is no handle to use and no TFD to reach before the
  configuration is checked and the handle acquired (`70_reset_and_hazards` R182 (1) and (2), `42_host_sequences` R137). Safe. -/
  | noInstance
  /-- Raised by `construct` where an instance stands: its configuration is created once, and its handle is owned exclusively
  (`00_scope` R7, `42_host_sequences` R137). Safe. -/
  | alreadyConstructed
  /-- Raised by the step of an instance whose construction was rejected or failed or which was released: its TFD and handle are
  discarded with it (`42_host_sequences` R137; `60_exceptions` R166, "the instance is dead"), and it is the `stuck` of item U1
  (R135, "a model gives it no further step"). Safe. -/
  | instanceDead
  deriving DecidableEq, Repr

/-- Refusals. -/
inductive Refusal where
  /-- Raised by an arm of exec whose instruction has no meaning yet; no arm does. Safe. -/
  | notModelled (mnemonic : String)
  /-- Raised by `WR` of one of the four registers the map gives no write address: "a host model refuses the call"
  (`42_host_sequences` R131; item U6). Safe. -/
  | writeToReadOnly (r : Reg)
  deriving DecidableEq, Repr

/-- The outcome of one step. -/
abbrev Result := Host.Outcome State Fault Refusal

/-- Before construction: no configuration was checked, so there is no instance, no transport handle is owned and no TFD exists
(`70_reset_and_hazards` R182, `42_host_sequences` R137); nothing delivered, asked, answered or returned (logs 1, 6 to 8). `rx` is
what the capture registers of the TFD will hold, the parameter `RESET_X` (`00_scope` R8). -/
def State.unbuilt (rx : Cap → Byte) : State where
  x0 := rx .hsb
  x1 := rx .msb
  x2 := rx .lsb
  x3 := rx .sr
  v0 := false
  v1 := false
  v2 := false
  v3 := false
  input := []
  mode := .absent
  cfg := none
  handle := false
  tfd := false
  phase := .idle
  todo := []
  events := []
  bus := []
  returned := []
  draws := 0

/-- The launch state (`70_reset_and_hazards` R180, `10_state` R30): the block right after reset, and its host Uninitialized, that
is the instance, the handle and the TFD right after the checked configuration `cfg` let them be created together
(`42_host_sequences` R137). `RESET_X` and the configuration are the arguments the spec asks a model to take (`00_scope` R7, R8). -/
def State.launch (rx : Cap → Byte) (cfg : DeviceConfig) : State :=
  { State.unbuilt rx with mode := .uninitialized, cfg := some cfg, handle := true, tfd := true }

/-- The machine right after reset. The spec leaves the capture registers open (`10_state` R30) and takes the configuration as an
argument (`00_scope` R7); this one state holds 0 in the registers and bus 0, device 0, type B (code 0) in the configuration,
DESIGN CHOICE, unsafe, log 3. Claims about reset are stated of every `State.launch rx cfg`. -/
def State.reset : State := State.launch (fun _ => 0) ⟨0, 0, .b⟩

end Sys2Proof.Machine
end

