-- ==== Sys2Proof/Machine/Flags.lean ====
section
/-! DEFINITION. The valid flags: who sets and who clears each (`10_state` R22). -/

namespace Sys2Proof.Machine

/-- Valid flag `v[i]` of a capture register (`10_state` R22). -/
def valid (c : Cap) (s : State) : Bool :=
  match c with
  | .hsb => s.v0
  | .msb => s.v1
  | .lsb => s.v2
  | .sr => s.v3

/-- What the capture of a register does to the flags (`10_state` R22, the table): its own is set, and the flags of the bytes
that come later in the frame order L, M, H are cleared. -/
def markCaptured (c : Cap) (s : State) : State :=
  match c with
  | .hsb => { s with v0 := true }
  | .msb => { s with v1 := true, v0 := false }
  | .lsb => { s with v2 := true, v1 := false, v0 := false }
  | .sr => { s with v3 := true }

/-- What the reset event does to the flags (`10_state` R22, R30; `70_reset_and_hazards` R180). -/
def clearFlags (s : State) : State := { s with v0 := false, v1 := false, v2 := false, v3 := false }

end Sys2Proof.Machine
end

