-- ==== Sys2Proof/WellFormed.lean ====
section
/-! DEFINITION. Which terms of `Instr` are records of their row: the legal values of Z and A (`30_encoding` R61, R64). -/

namespace Sys2Proof

/-- The fields lie in the range of the row the constructor stands for. D is legal at every value (`30_encoding` R61). -/
def Instr.wellFormed : Instr → Bool
  | .rdCr0 _ => true
  | .rdCr1 _ => true
  | .rdMask _ => true
  | .rdCjhf _ => true
  | .rdCjlf _ => true
  | .rdFth0 _ => true
  | .rdFth1 _ => true
  | .rdFth2 _ => true
  | .rdFth3 _ => true
  | .rdCjto _ => true
  | .rdCjth _ => true
  | .rdCjtl _ => true
  | .capLtcbh _ => true
  | .capLtcbm _ => true
  | .capLtcbl _ => true
  | .capSr _ => true
  | .wrCr0 _ => true
  | .wrCr1 _ => true
  | .wrMask _ => true
  | .wrCjhf _ => true
  | .wrCjlf _ => true
  | .wrFth0 _ => true
  | .wrFth1 _ => true
  | .wrFth2 _ => true
  | .wrFth3 _ => true
  | .wrCjto _ => true
  | .wrCjth _ => true
  | .wrCjtl _ => true
  | .rsvdWro a _ => decide (12#4 ≤ a)
  | .rsvdRd10 _ _ => true
  | .rsvdRd20 z _ _ => decide (2#3 ≤ z) && decide (z ≤ 3#3)
  | .rsvdRd40 z _ _ => decide (4#3 ≤ z)
  | .rsvdWr90 _ _ => true
  | .rsvdWrA0 z _ _ => decide (2#3 ≤ z) && decide (z ≤ 3#3)
  | .rsvdWrC0 z _ _ => decide (4#3 ≤ z)

end Sys2Proof
end

