-- ==== Sys2Proof/Decode.lean ====
section
/-! DEFINITION. Format R (`30_encoding` R60, R61): its fields, the decoder, and after it the encoder. -/

namespace Sys2Proof

/-- `rec[15:8]`, the tag (`30_encoding` R60). -/
def recTag (r : Record) : Byte := r.extractLsb' 8 8

/-- `rec[7:0]`, the data byte D (`30_encoding` R60). -/
def recData (r : Record) : Byte := r.extractLsb' 0 8

/-- `tag ∥ data` (`30_encoding` R60, `00_scope` R10 `deliver`). -/
def mkRecord (tag d : Byte) : Record := tag ++ d

/-- The write flag W, `rec[15]`, of a tag (`30_encoding` R61). -/
def tagW (t : Byte) : BitVec 1 := t.extractLsb' 7 1

/-- The field Z, `rec[14:12]`, of a tag (`30_encoding` R61). -/
def tagZ (t : Byte) : BitVec 3 := t.extractLsb' 4 3

/-- The register number A, `rec[11:8]`, of a tag (`30_encoding` R61). -/
def tagA (t : Byte) : BitVec 4 := t.extractLsb' 0 4

/-- The tag of the fields W, Z and A (`30_encoding` R60). -/
def mkTag (w : BitVec 1) (z : BitVec 3) (a : BitVec 4) : Byte := w ++ z ++ a

/-- W = 0, Z = 0: the sixteen read tags (`30_encoding` R63). -/
def decodeRead (a : BitVec 4) (d : Byte) : Instr :=
  match a.toNat with
  | 0 => .rdCr0 d
  | 1 => .rdCr1 d
  | 2 => .rdMask d
  | 3 => .rdCjhf d
  | 4 => .rdCjlf d
  | 5 => .rdFth0 d
  | 6 => .rdFth1 d
  | 7 => .rdFth2 d
  | 8 => .rdFth3 d
  | 9 => .rdCjto d
  | 10 => .rdCjth d
  | 11 => .rdCjtl d
  | 12 => .capLtcbh d
  | 13 => .capLtcbm d
  | 14 => .capLtcbl d
  | _ => .capSr d

/-- W = 1, Z = 0: the twelve write tags, and the write images of the four read-only registers (`30_encoding` R63, C7). -/
def decodeWrite (a : BitVec 4) (d : Byte) : Instr :=
  match a.toNat with
  | 0 => .wrCr0 d
  | 1 => .wrCr1 d
  | 2 => .wrMask d
  | 3 => .wrCjhf d
  | 4 => .wrCjlf d
  | 5 => .wrFth0 d
  | 6 => .wrFth1 d
  | 7 => .wrFth2 d
  | 8 => .wrFth3 d
  | 9 => .wrCjto d
  | 10 => .wrCjth d
  | 11 => .wrCjtl d
  | _ => .rsvdWro a d

/-- The tag alone selects the operation (`30_encoding` R63): a record with Z not zero is reserved (R64). -/
def decodeTagged (t d : Byte) : Instr :=
  if tagZ t = 0#3 then
    if tagW t = 0#1 then decodeRead (tagA t) d else decodeWrite (tagA t) d
  else if tagW t = 0#1 then
    if tagZ t = 1#3 then .rsvdRd10 (tagA t) d
    else if tagZ t ≤ 3#3 then .rsvdRd20 (tagZ t) (tagA t) d
    else .rsvdRd40 (tagZ t) (tagA t) d
  else
    if tagZ t = 1#3 then .rsvdWr90 (tagA t) d
    else if tagZ t ≤ 3#3 then .rsvdWrA0 (tagZ t) (tagA t) d
    else .rsvdWrC0 (tagZ t) (tagA t) d

/-- The record a 16-bit word is. Every word is one: the map covers all 256 tags (`30_encoding` R63). -/
def decode (r : Record) : Instr := decodeTagged (recTag r) (recData r)

/-- Why bytes are no record: the one thing that can be wrong is their number (`30_encoding` R65). -/
inductive DecodeError where
  | truncated
  deriving DecidableEq, Repr

/-- The first record of a stream of bytes, tag byte then data byte (`00_scope` R12), with the bytes after it. -/
def decodeBytes : List Byte → Except DecodeError (Instr × List Byte)
  | tag :: d :: rest => .ok (decode (mkRecord tag d), rest)
  | [_] => .error .truncated
  | [] => .error .truncated

/-- The 16-bit word that a row of `nbits` bits with the value `w` stands for: bits at and above `nbits` are 0. -/
def tableRecord (nbits w : Nat) : Record := BitVec.ofNat 16 (w % 2 ^ nbits)

/-- The instruction the decoder reads from a row's word, laid out as its tag byte and its data byte.
A row longer than the one format of 16 bits is no record (`30_encoding` R65). -/
def decodeTableWord (nbits w : Nat) : Option Instr :=
  if nbits ≤ 16 then
    match decodeBytes [recTag (tableRecord nbits w), recData (tableRecord nbits w)] with
    | .ok (i, _) => some i
    | .error _ => none
  else none

/-- The tag of a record (`30_encoding` R63). -/
def Instr.tag : Instr → Byte
  | .rdCr0 _ => 0x00
  | .rdCr1 _ => 0x01
  | .rdMask _ => 0x02
  | .rdCjhf _ => 0x03
  | .rdCjlf _ => 0x04
  | .rdFth0 _ => 0x05
  | .rdFth1 _ => 0x06
  | .rdFth2 _ => 0x07
  | .rdFth3 _ => 0x08
  | .rdCjto _ => 0x09
  | .rdCjth _ => 0x0A
  | .rdCjtl _ => 0x0B
  | .capLtcbh _ => 0x0C
  | .capLtcbm _ => 0x0D
  | .capLtcbl _ => 0x0E
  | .capSr _ => 0x0F
  | .wrCr0 _ => 0x80
  | .wrCr1 _ => 0x81
  | .wrMask _ => 0x82
  | .wrCjhf _ => 0x83
  | .wrCjlf _ => 0x84
  | .wrFth0 _ => 0x85
  | .wrFth1 _ => 0x86
  | .wrFth2 _ => 0x87
  | .wrFth3 _ => 0x88
  | .wrCjto _ => 0x89
  | .wrCjth _ => 0x8A
  | .wrCjtl _ => 0x8B
  | .rsvdWro a _ => mkTag 1#1 0#3 a
  | .rsvdRd10 a _ => mkTag 0#1 1#3 a
  | .rsvdRd20 z a _ => mkTag 0#1 z a
  | .rsvdRd40 z a _ => mkTag 0#1 z a
  | .rsvdWr90 a _ => mkTag 1#1 1#3 a
  | .rsvdWrA0 z a _ => mkTag 1#1 z a
  | .rsvdWrC0 z a _ => mkTag 1#1 z a

/-- The data byte D of a record (`30_encoding` R60). -/
def Instr.data : Instr → Byte
  | .rdCr0 d => d
  | .rdCr1 d => d
  | .rdMask d => d
  | .rdCjhf d => d
  | .rdCjlf d => d
  | .rdFth0 d => d
  | .rdFth1 d => d
  | .rdFth2 d => d
  | .rdFth3 d => d
  | .rdCjto d => d
  | .rdCjth d => d
  | .rdCjtl d => d
  | .capLtcbh d => d
  | .capLtcbm d => d
  | .capLtcbl d => d
  | .capSr d => d
  | .wrCr0 d => d
  | .wrCr1 d => d
  | .wrMask d => d
  | .wrCjhf d => d
  | .wrCjlf d => d
  | .wrFth0 d => d
  | .wrFth1 d => d
  | .wrFth2 d => d
  | .wrFth3 d => d
  | .wrCjto d => d
  | .wrCjth d => d
  | .wrCjtl d => d
  | .rsvdWro _ d => d
  | .rsvdRd10 _ d => d
  | .rsvdRd20 _ _ d => d
  | .rsvdRd40 _ _ d => d
  | .rsvdWr90 _ d => d
  | .rsvdWrA0 _ _ d => d
  | .rsvdWrC0 _ _ d => d

/-- The 16-bit word of a record (`30_encoding` R60). -/
def encode (i : Instr) : Record := mkRecord i.tag i.data

/-- The row's `match` word in the opcode table (`30_encoding` R63, R114 to R116). -/
def Instr.rowMatch : Instr → Record
  | .rdCr0 _ => 0x0000
  | .rdCr1 _ => 0x0100
  | .rdMask _ => 0x0200
  | .rdCjhf _ => 0x0300
  | .rdCjlf _ => 0x0400
  | .rdFth0 _ => 0x0500
  | .rdFth1 _ => 0x0600
  | .rdFth2 _ => 0x0700
  | .rdFth3 _ => 0x0800
  | .rdCjto _ => 0x0900
  | .rdCjth _ => 0x0A00
  | .rdCjtl _ => 0x0B00
  | .capLtcbh _ => 0x0C00
  | .capLtcbm _ => 0x0D00
  | .capLtcbl _ => 0x0E00
  | .capSr _ => 0x0F00
  | .wrCr0 _ => 0x8000
  | .wrCr1 _ => 0x8100
  | .wrMask _ => 0x8200
  | .wrCjhf _ => 0x8300
  | .wrCjlf _ => 0x8400
  | .wrFth0 _ => 0x8500
  | .wrFth1 _ => 0x8600
  | .wrFth2 _ => 0x8700
  | .wrFth3 _ => 0x8800
  | .wrCjto _ => 0x8900
  | .wrCjth _ => 0x8A00
  | .wrCjtl _ => 0x8B00
  | .rsvdWro _ _ => 0x8C00
  | .rsvdRd10 _ _ => 0x1000
  | .rsvdRd20 _ _ _ => 0x2000
  | .rsvdRd40 _ _ _ => 0x4000
  | .rsvdWr90 _ _ => 0x9000
  | .rsvdWrA0 _ _ _ => 0xA000
  | .rsvdWrC0 _ _ _ => 0xC000

/-- The row's `mask` word in the opcode table (`30_encoding` R63, R114 to R116). -/
def Instr.rowMask : Instr → Record
  | .rdCr0 _ => 0xFF00
  | .rdCr1 _ => 0xFF00
  | .rdMask _ => 0xFF00
  | .rdCjhf _ => 0xFF00
  | .rdCjlf _ => 0xFF00
  | .rdFth0 _ => 0xFF00
  | .rdFth1 _ => 0xFF00
  | .rdFth2 _ => 0xFF00
  | .rdFth3 _ => 0xFF00
  | .rdCjto _ => 0xFF00
  | .rdCjth _ => 0xFF00
  | .rdCjtl _ => 0xFF00
  | .capLtcbh _ => 0xFF00
  | .capLtcbm _ => 0xFF00
  | .capLtcbl _ => 0xFF00
  | .capSr _ => 0xFF00
  | .wrCr0 _ => 0xFF00
  | .wrCr1 _ => 0xFF00
  | .wrMask _ => 0xFF00
  | .wrCjhf _ => 0xFF00
  | .wrCjlf _ => 0xFF00
  | .wrFth0 _ => 0xFF00
  | .wrFth1 _ => 0xFF00
  | .wrFth2 _ => 0xFF00
  | .wrFth3 _ => 0xFF00
  | .wrCjto _ => 0xFF00
  | .wrCjth _ => 0xFF00
  | .wrCjtl _ => 0xFF00
  | .rsvdWro _ _ => 0xFC00
  | .rsvdRd10 _ _ => 0xF000
  | .rsvdRd20 _ _ _ => 0xE000
  | .rsvdRd40 _ _ _ => 0xC000
  | .rsvdWr90 _ _ => 0xF000
  | .rsvdWrA0 _ _ _ => 0xE000
  | .rsvdWrC0 _ _ _ => 0xC000

/-- A row of the opcode table: a word belongs to it when its masked bits are the row's `match`. -/
structure Row where
  pattern : Record
  mask : Record
  deriving DecidableEq, Repr

/-- The 35 rows of the opcode table as match and mask, in the table's order (`30_encoding` R63). -/
def opcodeRows : List Row :=
  [⟨0x0000, 0xFF00⟩, ⟨0x0100, 0xFF00⟩, ⟨0x0200, 0xFF00⟩, ⟨0x0300, 0xFF00⟩, ⟨0x0400, 0xFF00⟩, ⟨0x0500, 0xFF00⟩,
   ⟨0x0600, 0xFF00⟩, ⟨0x0700, 0xFF00⟩, ⟨0x0800, 0xFF00⟩, ⟨0x0900, 0xFF00⟩, ⟨0x0A00, 0xFF00⟩, ⟨0x0B00, 0xFF00⟩]
  ++ [⟨0x0C00, 0xFF00⟩, ⟨0x0D00, 0xFF00⟩, ⟨0x0E00, 0xFF00⟩, ⟨0x0F00, 0xFF00⟩]
  ++ [⟨0x8000, 0xFF00⟩, ⟨0x8100, 0xFF00⟩, ⟨0x8200, 0xFF00⟩, ⟨0x8300, 0xFF00⟩, ⟨0x8400, 0xFF00⟩, ⟨0x8500, 0xFF00⟩,
   ⟨0x8600, 0xFF00⟩, ⟨0x8700, 0xFF00⟩, ⟨0x8800, 0xFF00⟩, ⟨0x8900, 0xFF00⟩, ⟨0x8A00, 0xFF00⟩, ⟨0x8B00, 0xFF00⟩]
  ++ [⟨0x8C00, 0xFC00⟩, ⟨0x1000, 0xF000⟩, ⟨0x2000, 0xE000⟩, ⟨0x4000, 0xC000⟩,
   ⟨0x9000, 0xF000⟩, ⟨0xA000, 0xE000⟩, ⟨0xC000, 0xC000⟩]

/-- A word lies in a row. -/
def Row.holds (row : Row) (r : Record) : Bool := (r &&& row.mask) == row.pattern

/-- The mnemonic the spec gives a record (`30_encoding` R63, R66). -/
def Instr.mnemonic : Instr → String
  | .rdCr0 _ => "RD.CR0"
  | .rdCr1 _ => "RD.CR1"
  | .rdMask _ => "RD.MASK"
  | .rdCjhf _ => "RD.CJHF"
  | .rdCjlf _ => "RD.CJLF"
  | .rdFth0 _ => "RD.FTH0"
  | .rdFth1 _ => "RD.FTH1"
  | .rdFth2 _ => "RD.FTH2"
  | .rdFth3 _ => "RD.FTH3"
  | .rdCjto _ => "RD.CJTO"
  | .rdCjth _ => "RD.CJTH"
  | .rdCjtl _ => "RD.CJTL"
  | .capLtcbh _ => "CAP.LTCBH"
  | .capLtcbm _ => "CAP.LTCBM"
  | .capLtcbl _ => "CAP.LTCBL"
  | .capSr _ => "CAP.SR"
  | .wrCr0 _ => "WR.CR0"
  | .wrCr1 _ => "WR.CR1"
  | .wrMask _ => "WR.MASK"
  | .wrCjhf _ => "WR.CJHF"
  | .wrCjlf _ => "WR.CJLF"
  | .wrFth0 _ => "WR.FTH0"
  | .wrFth1 _ => "WR.FTH1"
  | .wrFth2 _ => "WR.FTH2"
  | .wrFth3 _ => "WR.FTH3"
  | .wrCjto _ => "WR.CJTO"
  | .wrCjth _ => "WR.CJTH"
  | .wrCjtl _ => "WR.CJTL"
  | .rsvdWro _ _ => "RSVD.WRO"
  | .rsvdRd10 _ _ => "RSVD.RD"
  | .rsvdRd20 _ _ _ => "RSVD.RD"
  | .rsvdRd40 _ _ _ => "RSVD.RD"
  | .rsvdWr90 _ _ => "RSVD.WR"
  | .rsvdWrA0 _ _ _ => "RSVD.WR"
  | .rsvdWrC0 _ _ _ => "RSVD.WR"

end Sys2Proof
end

