-- ==== Sys2Proof/Machine/Operands.lean ====
section
/-! DEFINITION. The capture registers as operands (`10_state` R21), and the temperature operand assembled from three of them
(`30_encoding` R62, `20_memory` R45). -/

namespace Sys2Proof.Machine

/-- The capture register of an index, the low two bits of the tag (`10_state` R21). -/
def capOfIndex (i : BitVec 2) : Cap :=
  match i.toNat with
  | 0 => .hsb
  | 1 => .msb
  | 2 => .lsb
  | _ => .sr

/-- `x[i]`, a read of a capture register (`00_scope` R10). -/
def readX (c : Cap) (s : State) : Byte :=
  match c with
  | .hsb => s.x0
  | .msb => s.x1
  | .lsb => s.x2
  | .sr => s.x3

/-- `x[i] <- v`, a write of a capture register: all 8 bits are stored (`00_scope` R10, `10_state` R21). -/
def writeX (c : Cap) (b : Byte) (s : State) : State :=
  match c with
  | .hsb => { s with x0 := b }
  | .msb => { s with x1 := b }
  | .lsb => { s with x2 := b }
  | .sr => { s with x3 := b }

/-- `W24 = HSB ∥ MSB ∥ LSB` (`20_memory` R45, `30_encoding` R62). -/
def word24 (lsb msb hsb : Byte) : BitVec 24 := hsb ++ msb ++ lsb

/-- The 19-bit field `W24[23:5]` (`20_memory` R45, `43_temperature_decode` R141). -/
def fieldOf (lsb msb hsb : Byte) : Field := (word24 lsb msb hsb).extractLsb' 5 19

end Sys2Proof.Machine
end

