-- ==== Sys2Proof/Machine/Ops.lean ====
section
/-! DEFINITION. The named operations of the block and of its port. The block has no memory (`10_state` R28) and takes no
exception (`60_exceptions` R160, R165), so there is no operation for either. -/

namespace Sys2Proof.Machine

/-- A capture: the data byte is stored unchanged and the flags follow (`30_encoding` R62, R68). -/
def capture (c : Cap) (d : Byte) (s : State) : State := markCaptured c (writeX c d s)

/-- `pass`: the state after equals the state before, whatever the data byte (`41_passthrough_records` R117). -/
def pass (_d : Byte) (s : State) : State := s

/-- The capture registers after a reset event: a draw of `RESET_X`, free values (`10_state` R30; log 4). -/
def drawX (s : State) : State :=
  { s with
    x0 := Config.resetX s.draws .hsb
    x1 := Config.resetX s.draws .msb
    x2 := Config.resetX s.draws .lsb
    x3 := Config.resetX s.draws .sr
    draws := s.draws + 1 }

/-- The reset event: flags 0, capture registers unspecified, chip, transport and host untouched (`70_reset_and_hazards` R180). -/
def blockReset (s : State) : State := clearFlags (drawX s)

/-- The block takes what stands first at its input port; `rest` is what is left there (`70_reset_and_hazards` R189). -/
def takeInput (rest : List PortEvent) (s : State) : State := { s with input := rest }

/-- `deliver(tag, data)`: the environment hands a record to the block (`00_scope` R10). -/
def deliver (tag d : Byte) (s : State) : State := { s with input := s.input ++ [.record (mkRecord tag d)] }

/-- The environment hands the block a reset event (`70_reset_and_hazards` R180). -/
def deliverReset (s : State) : State := { s with input := s.input ++ [.reset] }

/-- Instance, transport handle and TFD are created together with a configuration that passed its check; the TFD is in the
block's initial state: flags 0, whatever its capture registers hold (`42_host_sequences` R135, R137, `70_reset_and_hazards` R180,
R182). -/
def createInstance (cfg : DeviceConfig) (s : State) : State :=
  clearFlags { s with mode := .uninitialized, cfg := some cfg, handle := true, tfd := true, phase := .idle }

/-- The instance ends: handle and TFD are discarded with it (`42_host_sequences` R137), and it gets no further step (R135). -/
def endInstance (s : State) : State := { s with mode := .dead, handle := false, tfd := false, phase := .idle }

/-- A caller or the consumer is given a value. -/
def giveBack (r : Returned) (s : State) : State := { s with returned := s.returned ++ [r] }

/-- A free value has been used: the next use draws another (log 5). -/
def countDraw (s : State) : State := { s with draws := s.draws + 1 }

end Sys2Proof.Machine
end

