-- ==== Sys2Proof/Machine/Capture.lean ====
section
/-! DEFINITION. The four capture records (`40_capture_records`). -/

namespace Sys2Proof.Machine

/-- `CAP.LTCBH`: `x[0] <- D`, `v[0] <- 1` (`40_capture_records` R82). -/
def execCapLtcbh (d : Byte) (s : State) : Result := .next (capture .hsb d s)

/-- `CAP.LTCBM`: `x[1] <- D`, `v[1] <- 1`, `v[0] <- 0` (`40_capture_records` R81). -/
def execCapLtcbm (d : Byte) (s : State) : Result := .next (capture .msb d s)

/-- `CAP.LTCBL`: `x[2] <- D`, `v[2] <- 1`, `v[1] <- 0`, `v[0] <- 0` (`40_capture_records` R80). -/
def execCapLtcbl (d : Byte) (s : State) : Result := .next (capture .lsb d s)

/-- `CAP.SR`: `x[3] <- D`, `v[3] <- 1` (`40_capture_records` R83). -/
def execCapSr (d : Byte) (s : State) : Result := .next (capture .sr d s)

end Sys2Proof.Machine
end

