-- ==== Sys2Proof/Machine/PassRead.lean ====
section
/-! DEFINITION. The twelve pass-through reads (`41_passthrough_records` section 2). -/

namespace Sys2Proof.Machine

/-- `RD.CR0`: `pass` (`41_passthrough_records` R90, R117). -/
def execRdCr0 (d : Byte) (s : State) : Result := .next (pass d s)

/-- `RD.CR1`: `pass` (`41_passthrough_records` R91, R117). -/
def execRdCr1 (d : Byte) (s : State) : Result := .next (pass d s)

/-- `RD.MASK`: `pass` (`41_passthrough_records` R92, R117). -/
def execRdMask (d : Byte) (s : State) : Result := .next (pass d s)

/-- `RD.CJHF`: `pass` (`41_passthrough_records` R93, R117). -/
def execRdCjhf (d : Byte) (s : State) : Result := .next (pass d s)

/-- `RD.CJLF`: `pass` (`41_passthrough_records` R94, R117). -/
def execRdCjlf (d : Byte) (s : State) : Result := .next (pass d s)

/-- `RD.FTH0`: `pass` (`41_passthrough_records` R95, R117). -/
def execRdFth0 (d : Byte) (s : State) : Result := .next (pass d s)

/-- `RD.FTH1`: `pass` (`41_passthrough_records` R96, R117). -/
def execRdFth1 (d : Byte) (s : State) : Result := .next (pass d s)

/-- `RD.FTH2`: `pass` (`41_passthrough_records` R97, R117). -/
def execRdFth2 (d : Byte) (s : State) : Result := .next (pass d s)

/-- `RD.FTH3`: `pass` (`41_passthrough_records` R98, R117). -/
def execRdFth3 (d : Byte) (s : State) : Result := .next (pass d s)

/-- `RD.CJTO`: `pass` (`41_passthrough_records` R99, R117). -/
def execRdCjto (d : Byte) (s : State) : Result := .next (pass d s)

/-- `RD.CJTH`: `pass` (`41_passthrough_records` R100, R117). -/
def execRdCjth (d : Byte) (s : State) : Result := .next (pass d s)

/-- `RD.CJTL`: `pass` (`41_passthrough_records` R101, R117). -/
def execRdCjtl (d : Byte) (s : State) : Result := .next (pass d s)

end Sys2Proof.Machine
end

