-- ==== Sys2Proof/Machine/PassWrite.lean ====
section
/-! DEFINITION. The twelve pass-through writes (`41_passthrough_records` section 3). The write's effect is on the chip alone:
`completeXfer` of Bus.lean records it where the transaction is made. -/

namespace Sys2Proof.Machine

/-- `WR.CR0`: `pass` (`41_passthrough_records` R102, R117). -/
def execWrCr0 (d : Byte) (s : State) : Result := .next (pass d s)

/-- `WR.CR1`: `pass` (`41_passthrough_records` R103, R117). -/
def execWrCr1 (d : Byte) (s : State) : Result := .next (pass d s)

/-- `WR.MASK`: `pass` (`41_passthrough_records` R104, R117). -/
def execWrMask (d : Byte) (s : State) : Result := .next (pass d s)

/-- `WR.CJHF`: `pass` (`41_passthrough_records` R105, R117). -/
def execWrCjhf (d : Byte) (s : State) : Result := .next (pass d s)

/-- `WR.CJLF`: `pass` (`41_passthrough_records` R106, R117). -/
def execWrCjlf (d : Byte) (s : State) : Result := .next (pass d s)

/-- `WR.FTH0`: `pass` (`41_passthrough_records` R107, R117). -/
def execWrFth0 (d : Byte) (s : State) : Result := .next (pass d s)

/-- `WR.FTH1`: `pass` (`41_passthrough_records` R108, R117). -/
def execWrFth1 (d : Byte) (s : State) : Result := .next (pass d s)

/-- `WR.FTH2`: `pass` (`41_passthrough_records` R109, R117). -/
def execWrFth2 (d : Byte) (s : State) : Result := .next (pass d s)

/-- `WR.FTH3`: `pass` (`41_passthrough_records` R110, R117). -/
def execWrFth3 (d : Byte) (s : State) : Result := .next (pass d s)

/-- `WR.CJTO`: `pass` (`41_passthrough_records` R111, R117). -/
def execWrCjto (d : Byte) (s : State) : Result := .next (pass d s)

/-- `WR.CJTH`: `pass` (`41_passthrough_records` R112, R117). -/
def execWrCjth (d : Byte) (s : State) : Result := .next (pass d s)

/-- `WR.CJTL`: `pass` (`41_passthrough_records` R113, R117). -/
def execWrCjtl (d : Byte) (s : State) : Result := .next (pass d s)

end Sys2Proof.Machine
end

