-- ==== Sys2Proof/Machine/Reserved.lean ====
section
/-! DEFINITION. The reserved records (`41_passthrough_records` section 4): the block ignores them, look-alikes of captures too. -/

namespace Sys2Proof.Machine

/-- `RSVD.WRO`, tags 0x8C to 0x8F: `pass` (`41_passthrough_records` R114, R117). -/
def execRsvdWro (_a : BitVec 4) (d : Byte) (s : State) : Result := .next (pass d s)

/-- `RSVD.RD`, tags 0x10 to 0x1F: `pass` (`41_passthrough_records` R115, R117). -/
def execRsvdRd10 (_a : BitVec 4) (d : Byte) (s : State) : Result := .next (pass d s)

/-- `RSVD.RD`, tags 0x20 to 0x3F: `pass` (`41_passthrough_records` R115, R117). -/
def execRsvdRd20 (_z : BitVec 3) (_a : BitVec 4) (d : Byte) (s : State) : Result := .next (pass d s)

/-- `RSVD.RD`, tags 0x40 to 0x7F: `pass` (`41_passthrough_records` R115, R117). -/
def execRsvdRd40 (_z : BitVec 3) (_a : BitVec 4) (d : Byte) (s : State) : Result := .next (pass d s)

/-- `RSVD.WR`, tags 0x90 to 0x9F: `pass` (`41_passthrough_records` R116, R117). -/
def execRsvdWr90 (_a : BitVec 4) (d : Byte) (s : State) : Result := .next (pass d s)

/-- `RSVD.WR`, tags 0xA0 to 0xBF: `pass` (`41_passthrough_records` R116, R117). -/
def execRsvdWrA0 (_z : BitVec 3) (_a : BitVec 4) (d : Byte) (s : State) : Result := .next (pass d s)

/-- `RSVD.WR`, tags 0xC0 to 0xFF: `pass` (`41_passthrough_records` R116, R117). -/
def execRsvdWrC0 (_z : BitVec 3) (_a : BitVec 4) (d : Byte) (s : State) : Result := .next (pass d s)

end Sys2Proof.Machine
end

