-- ==== Sys2Proof/Machine/Dispatch.lean ====
section
/-! DEFINITION. One arm per record of the opcode map (`30_encoding` R63, R68). -/

namespace Sys2Proof.Machine

def exec (i : Instr) (s : State) : Host.Outcome State Fault Refusal :=
  match i with
  | .rdCr0 d => Sys2Proof.Machine.execRdCr0 d s
  | .rdCr1 d => Sys2Proof.Machine.execRdCr1 d s
  | .rdMask d => Sys2Proof.Machine.execRdMask d s
  | .rdCjhf d => Sys2Proof.Machine.execRdCjhf d s
  | .rdCjlf d => Sys2Proof.Machine.execRdCjlf d s
  | .rdFth0 d => Sys2Proof.Machine.execRdFth0 d s
  | .rdFth1 d => Sys2Proof.Machine.execRdFth1 d s
  | .rdFth2 d => Sys2Proof.Machine.execRdFth2 d s
  | .rdFth3 d => Sys2Proof.Machine.execRdFth3 d s
  | .rdCjto d => Sys2Proof.Machine.execRdCjto d s
  | .rdCjth d => Sys2Proof.Machine.execRdCjth d s
  | .rdCjtl d => Sys2Proof.Machine.execRdCjtl d s
  | .capLtcbh d => Sys2Proof.Machine.execCapLtcbh d s
  | .capLtcbm d => Sys2Proof.Machine.execCapLtcbm d s
  | .capLtcbl d => Sys2Proof.Machine.execCapLtcbl d s
  | .capSr d => Sys2Proof.Machine.execCapSr d s
  | .wrCr0 d => Sys2Proof.Machine.execWrCr0 d s
  | .wrCr1 d => Sys2Proof.Machine.execWrCr1 d s
  | .wrMask d => Sys2Proof.Machine.execWrMask d s
  | .wrCjhf d => Sys2Proof.Machine.execWrCjhf d s
  | .wrCjlf d => Sys2Proof.Machine.execWrCjlf d s
  | .wrFth0 d => Sys2Proof.Machine.execWrFth0 d s
  | .wrFth1 d => Sys2Proof.Machine.execWrFth1 d s
  | .wrFth2 d => Sys2Proof.Machine.execWrFth2 d s
  | .wrFth3 d => Sys2Proof.Machine.execWrFth3 d s
  | .wrCjto d => Sys2Proof.Machine.execWrCjto d s
  | .wrCjth d => Sys2Proof.Machine.execWrCjth d s
  | .wrCjtl d => Sys2Proof.Machine.execWrCjtl d s
  | .rsvdWro a d => Sys2Proof.Machine.execRsvdWro a d s
  | .rsvdRd10 a d => Sys2Proof.Machine.execRsvdRd10 a d s
  | .rsvdRd20 z a d => Sys2Proof.Machine.execRsvdRd20 z a d s
  | .rsvdRd40 z a d => Sys2Proof.Machine.execRsvdRd40 z a d s
  | .rsvdWr90 a d => Sys2Proof.Machine.execRsvdWr90 a d s
  | .rsvdWrA0 z a d => Sys2Proof.Machine.execRsvdWrA0 z a d s
  | .rsvdWrC0 z a d => Sys2Proof.Machine.execRsvdWrC0 z a d s

end Sys2Proof.Machine
end

