-- ==== Sys2Proof/Machine/Tables.lean ====
section
/-! DEFINITION. The constant tables (`10_state` R25): the register map, the thermocouple type codes and the fault names; and
what the source says of the bytes of CR0 and CR1 (`10_state` R26). -/

namespace Sys2Proof.Machine

/-- The read address of a register, 0x00 to 0x0F (`20_memory` R40). -/
def regAddr : Reg → Byte
  | .cr0 => 0x00
  | .cr1 => 0x01
  | .mask => 0x02
  | .cjhf => 0x03
  | .cjlf => 0x04
  | .fth0 => 0x05
  | .fth1 => 0x06
  | .fth2 => 0x07
  | .fth3 => 0x08
  | .cjto => 0x09
  | .cjth => 0x0A
  | .cjtl => 0x0B
  | .ltcbh => 0x0C
  | .ltcbm => 0x0D
  | .ltcbl => 0x0E
  | .sr => 0x0F

/-- Whether the map gives a write address: not to the four read-only registers (`20_memory` R40, R41, C7). -/
def regWritable : Reg → Bool
  | .cr0 => true
  | .cr1 => true
  | .mask => true
  | .cjhf => true
  | .cjlf => true
  | .fth0 => true
  | .fth1 => true
  | .fth2 => true
  | .fth3 => true
  | .cjto => true
  | .cjth => true
  | .cjtl => true
  | .ltcbh => false
  | .ltcbm => false
  | .ltcbl => false
  | .sr => false

/-- The tag of a read: the read address with bit 7 clear (`20_memory` R41, R42). -/
def readTag (r : Reg) : Byte := regAddr r &&& 0x7F

/-- The tag of a write: the read address with bit 7 set (`20_memory` R41, R43). -/
def writeTag (r : Reg) : Byte := regAddr r ||| Config.writeFlag

/-- The write address column of the map, none for a read-only register (`20_memory` R40). -/
def writeAddr? (r : Reg) : Option Byte := if regWritable r then some (writeTag r) else none

/-- The thermocouple type codes (`10_state` R26). -/
def tcCode : TcType → Byte
  | .b => 0
  | .e => 1
  | .j => 2
  | .k => 3
  | .n => 4
  | .r => 5
  | .s => 6
  | .t => 7

/-- The type of a code; codes above 7 name none and are not masked (`42_host_sequences` R136). -/
def tcOfCode : Nat → Option TcType
  | 0 => some .b
  | 1 => some .e
  | 2 => some .j
  | 3 => some .k
  | 4 => some .n
  | 5 => some .r
  | 6 => some .s
  | 7 => some .t
  | _ => none

/-- The byte `INIT` writes to CR1, `(0x2 << 4) | code` (`42_host_sequences` R132). -/
def cr1Byte (tc : TcType) : Byte := (Config.avgSel <<< 4) ||| tcCode tc

/-- What a whole byte in CR0 selects, where the source says (`10_state` R26). -/
def cr0Conversion (b : Byte) : Option Conversion :=
  if b = Config.cr0Continuous then some .continuous
  else if b = Config.cr0OneShot then some .oneShot
  else none

/-- The averaging selector, bits 6:4 of CR1 (`10_state` R26, C6). -/
def cr1Selector (b : Byte) : BitVec 3 := b.extractLsb' 4 3

/-- The thermocouple type in bits 3:0 of CR1, where the code is defined (`10_state` R26, C6). -/
def cr1Type (b : Byte) : Option TcType := tcOfCode (b.extractLsb' 0 4).toNat

/-- The bit of the status byte a fault line stands for (`44_fault_decode` R152). -/
def faultIndex : FaultLine → Nat
  | .fOpen => 0
  | .fOvuv => 1
  | .fTclow => 2
  | .fTchigh => 3
  | .fCjlow => 4
  | .fCjhigh => 5
  | .fTcrange => 6
  | .fCjrange => 7

/-- `FAULT_LABEL`: entries 0 and 2 are fixed, the six others are the parameter's (`44_fault_decode` R153, `00_scope` R8). -/
def faultLabel (p : Config.LabelParams) : FaultLine → String
  | .fOpen => "Thermocouple Open-Circuit Fault"
  | .fOvuv => p.label1
  | .fTclow => "Thermocouple Temperature Low Fault"
  | .fTchigh => p.label3
  | .fCjlow => p.label4
  | .fCjhigh => p.label5
  | .fTcrange => p.label6
  | .fCjrange => p.label7

end Sys2Proof.Machine
end

