-- ==== Sys2Proof/Machine/Bus.lean ====
section
/-! DEFINITION. Register transactions (`20_memory` R42 to R44): what is sent, what a completed one delivers and where it
leaves the host's sequence, and what a failed one does (`60_exceptions` R161). -/

namespace Sys2Proof.Machine

/-- The two bytes of the transaction that is due: a read sends `[a & 0x7F, 0x00]` (`20_memory` R42), a write
`[a | 0x80, b]` (R43); `INIT` writes CR0 and then CR1 (`42_host_sequences` R132), `GETTEMP` reads LTCBL, LTCBM, LTCBH (R133),
`GETFAULTS` reads SR (R134). -/
def busRequest (p : Phase) : Option (Byte × Byte) :=
  match p with
  | .idle => none
  | .rd r => some (readTag r, 0x00)
  | .wr r b => some (writeTag r, b)
  | .initCr0 _ => some (writeTag .cr0, Config.cr0Continuous)
  | .initCr1 tc => some (writeTag .cr1, cr1Byte tc)
  | .tempL => some (readTag .ltcbl, 0x00)
  | .tempM => some (readTag .ltcbm, 0x00)
  | .tempH => some (readTag .ltcbh, 0x00)
  | .tempSample => none
  | .faultsSr => some (readTag .sr, 0x00)
  | .faultsSample => none

/-- The data byte of the record a completed transaction makes: the byte the chip returned for a read, the byte the host wrote
for a write (`30_encoding` R60). The tag's bit 7 is the write flag (`20_memory` R41). -/
def xferData (t : Xfer) : Byte := if t.tx0.getLsbD 7 then t.tx1 else t.rx1

/-- Where a completed transaction leaves the host: `RD` returns the second received byte (`42_host_sequences` R130), the second
write of `INIT` makes the host Ready (R135), a query goes on to its next act (R133, R134). -/
def advanceHost (rx1 : Byte) (s : State) : State :=
  match s.phase with
  | .idle => s
  | .rd _ => giveBack (.readByte rx1) { s with phase := .idle }
  | .wr _ _ => giveBack .written { s with phase := .idle }
  | .initCr0 tc => { s with phase := .initCr1 tc }
  | .initCr1 _ => giveBack .constructed { s with phase := .idle, mode := .ready }
  | .tempL => { s with phase := .tempM }
  | .tempM => { s with phase := .tempH }
  | .tempH => { s with phase := .tempSample }
  | .tempSample => s
  | .faultsSr => { s with phase := .faultsSample }
  | .faultsSample => s

/-- A completed transaction is seen by the chip and delivers one record to the block (`20_memory` R53). -/
def completeXfer (t : Xfer) (s : State) : State :=
  advanceHost t.rx1 (deliver t.tx0 (xferData t) { s with bus := s.bus ++ [t] })

/-- A failed transaction delivers no record; the failure goes to the caller at once. Inside `INIT` the
instance ends, elsewhere the host stays as it was (`60_exceptions` R161, `42_host_sequences` R135, R137). -/
def failXfer (s : State) : State :=
  match s.phase with
  | .initCr0 _ => giveBack .transportFailure (endInstance s)
  | .initCr1 _ => giveBack .transportFailure (endInstance s)
  | .idle => giveBack .transportFailure { s with phase := .idle }
  | .rd _ => giveBack .transportFailure { s with phase := .idle }
  | .wr _ _ => giveBack .transportFailure { s with phase := .idle }
  | .tempL => giveBack .transportFailure { s with phase := .idle }
  | .tempM => giveBack .transportFailure { s with phase := .idle }
  | .tempH => giveBack .transportFailure { s with phase := .idle }
  | .tempSample => giveBack .transportFailure { s with phase := .idle }
  | .faultsSr => giveBack .transportFailure { s with phase := .idle }
  | .faultsSample => giveBack .transportFailure { s with phase := .idle }

/-- The byte last written to a register, if any was, as the recorded transactions show it (`60_exceptions` R171; log 9). -/
def lastWritten (r : Reg) (bus : List Xfer) : Option Byte :=
  (bus.reverse.find? fun t => t.tx0 == writeTag r).map Xfer.tx1

end Sys2Proof.Machine
end

