-- ==== Sys2Proof/Machine/FaultDecode.lean ====
section
/-! DEFINITION. FDEC, the fault decode (`44_fault_decode`). -/

namespace Sys2Proof.Machine

/-- The fault lines in bit order 0 to 7 (`44_fault_decode` R151, R152). -/
def faultLines : List FaultLine := [.fOpen, .fOvuv, .fTclow, .fTchigh, .fCjlow, .fCjhigh, .fTcrange, .fCjrange]

/-- The test `(S & (1 << i)) != 0` (`44_fault_decode` R151). -/
def faultActive (b : Byte) (l : FaultLine) : Bool := (b &&& (1#8 <<< faultIndex l)) != 0#8

/-- FDEC as the ascending list of active lines; the label table is applied last (`44_fault_decode` R151). -/
def fdec (b : Byte) : List FaultLine := faultLines.filter (faultActive b)

/-- FDEC as the list of labels (`44_fault_decode` R151, R153). -/
def fdecLabels (p : Config.LabelParams) (b : Byte) : List String := (fdec b).map (faultLabel p)

/-- `popcount`, the number of 1 bits (`00_scope` R9). -/
def popcount (b : Byte) : Nat :=
  b[0].toNat + b[1].toNat + b[2].toNat + b[3].toNat + b[4].toNat + b[5].toNat + b[6].toNat + b[7].toNat

end Sys2Proof.Machine
end

