-- ==== Sys2Proof/Machine/Temperature.lean ====
section
/-! DEFINITION. TDEC, the temperature decode (`43_temperature_decode`), on mathematical integers (`00_scope` R9). -/

namespace Sys2Proof.Machine

/-- Step 1 of TDEC: `((HSB & 0x7F) << 16) | (MSB << 8) | LSB` (`43_temperature_decode` R140). -/
def tdecCompose (lsb msb hsb : Byte) : Nat :=
  ((hsb &&& 0x7F).toNat <<< 16) ||| (msb.toNat <<< 8) ||| lsb.toNat

/-- Step 2 of TDEC: the 18-bit magnitude (`43_temperature_decode` R140, C3). -/
def tdecMagnitude (lsb msb hsb : Byte) : Nat := tdecCompose lsb msb hsb >>> Config.discardW

/-- TDEC, steps 1 to 3: the count of 2^-7 degrees (`43_temperature_decode` R140). -/
def tdec (lsb msb hsb : Byte) : Int :=
  if hsb.getLsbD 7 then (tdecMagnitude lsb msb hsb : Int) - Config.signWeight
  else (tdecMagnitude lsb msb hsb : Int)

/-- Step 4 of TDEC: the temperature in degrees Celsius, the exact rational N / 128 (`43_temperature_decode` R142, R149). -/
def celsius (n : Int) : Rat := (n : Rat) / (Config.countsPerDegree : Rat)

/-- `ENC(t) = floor(t * 128)`, the encoder the spec defines for tests only (`43_temperature_decode` R150, D21). -/
def encCount (t : Rat) : Int := (t * (Config.countsPerDegree : Rat)).floor

/-- `u = N mod 2^19`, the pattern of a count (`43_temperature_decode` R150). -/
def encPattern (n : Int) : Field := BitVec.ofInt 19 n

/-- The high byte ENC lays out, `u[18:11]` (`43_temperature_decode` R150). -/
def encHsb (n : Int) : Byte := (encPattern n).extractLsb' 11 8

/-- The middle byte ENC lays out, `u[10:3]` (`43_temperature_decode` R150). -/
def encMsb (n : Int) : Byte := (encPattern n).extractLsb' 3 8

/-- The low byte ENC lays out, `u[2:0] ∥ 0b00000` (`43_temperature_decode` R150). -/
def encLsb (n : Int) : Byte := (encPattern n).extractLsb' 0 3 ++ (0#5)

end Sys2Proof.Machine
end

