-- ==== Sys2Proof/Machine/Ports.lean ====
section
/-! DEFINITION. The six output ports as functions of the state (`10_state` R31), and what a consumer gets who uses one. -/

namespace Sys2Proof.Machine

/-- Port `T`: `x[0] ∥ x[1] ∥ x[2][7:5]` (`43_temperature_decode` R144). -/
def portT (s : State) : Field := readX .hsb s ++ readX .msb s ++ (readX .lsb s).extractLsb' 5 3

/-- Port `T_OK`: `v[0] & v[1] & v[2]` (`43_temperature_decode` R145). -/
def portTOk (s : State) : Bool := valid .hsb s && valid .msb s && valid .lsb s

/-- Port `F`: `x[3]` (`44_fault_decode` R154). -/
def portF (s : State) : Byte := readX .sr s

/-- One line of port `F` (`44_fault_decode` R152, R154). -/
def portLine (l : FaultLine) (s : State) : Bool := (portF s).getLsbD (faultIndex l)

/-- Port `F_OK`: `v[3]` (`44_fault_decode` R154). -/
def portFOk (s : State) : Bool := valid .sr s

/-- Port `FCNT`: `popcount(x[3])` (`44_fault_decode` R155). -/
def portFcnt (s : State) : BitVec 4 := BitVec.ofNat 4 (popcount (readX .sr s))

/-- Port `IN_READY`: constant 1 (`10_state` R31, `70_reset_and_hazards` R189). -/
def portInReady (_s : State) : Bool := true

/-- What a use of `T` gives: the port while `T_OK = 1`, else a free value (`10_state` R31, item U12; log 5). -/
def useT (s : State) : Field := if portTOk s then portT s else Config.unspecifiedT s.draws

/-- What a use of `F` gives: the port while `F_OK = 1`, else a free value (`10_state` R31, item U12; log 5). -/
def useF (s : State) : Byte := if portFOk s then portF s else Config.unspecifiedF s.draws

/-- What a use of `FCNT` gives: the port while `F_OK = 1`, else a free value (`10_state` R31, item U12; log 5). -/
def useFcnt (s : State) : BitVec 4 := if portFOk s then portFcnt s else Config.unspecifiedFcnt s.draws

/-- `SAMPLE <port>` (`30_encoding` R66): the consumer reads a port between two steps. The block's state is not touched. -/
def samplePort (p : Port) (s : State) : State :=
  match p with
  | .t => countDraw (giveBack (.sampledT (useT s)) s)
  | .tOk => giveBack (.sampledTOk (portTOk s)) s
  | .f => countDraw (giveBack (.sampledF (useF s)) s)
  | .fOk => giveBack (.sampledFOk (portFOk s)) s
  | .fcnt => countDraw (giveBack (.sampledFcnt (useFcnt s)) s)
  | .inReady => giveBack (.sampledInReady (portInReady s)) s

end Sys2Proof.Machine
end

