-- ==== Sys2Proof/Machine/HostOps.lean ====
section
/-! DEFINITION. The environment's moves: the host's operations and sequences (`42_host_sequences`), and which agent moves when
no record stands at the block's port. -/

namespace Sys2Proof.Machine

/-- The configuration check: the type is one of the eight, the identifiers are non-negative, nothing is masked
(`42_host_sequences` R136). -/
def checkConfig (c : ConfigRequest) : Option DeviceConfig :=
  match tcOfCode c.tcCode with
  | none => none
  | some tc =>
    if 0 ≤ c.busId ∧ 0 ≤ c.deviceId then some ⟨c.busId.toNat, c.deviceId.toNat, tc⟩ else none

/-- Construction (`70_reset_and_hazards` R182): (1) the configuration is checked, before any transaction; (2) if it passes, the
transport handle is acquired, and instance, handle and TFD are created together (`42_host_sequences` R137). A failed check raises
Invalid configuration (R136, `60_exceptions` R162), as the first line of `INIT` in `42_host_sequences` R132 does: no handle was
held, no transaction is issued, and the construction is dead (`60_exceptions` R166). -/
def startConstruct (c : ConfigRequest) (s : State) : Result :=
  match checkConfig c with
  | none => .next (giveBack .invalidConfiguration (endInstance s))
  | some cfg => .next (createInstance cfg s)

/-- `INIT` begins: the two writes, CR0 then CR1 with the type of the instance's configuration, which was checked before the handle
was acquired (`42_host_sequences` R132, R136, `70_reset_and_hazards` R182). -/
def startInit (s : State) : Result :=
  match s.mode, s.cfg with
  | .absent, _ => .fault .noInstance
  | .dead, _ => .fault .instanceDead
  | .ready, _ => .fault .alreadyInitialized
  | .uninitialized, none => .fault .noInstance
  | .uninitialized, some cfg => .next { s with phase := .initCr0 cfg.tcType }

/-- `GETTEMP` or `GETFAULTS` begins with its first read; both are defined only in Ready (`42_host_sequences` R133 to R135). -/
def startQuery (first : Phase) (s : State) : Result :=
  match s.mode with
  | .absent => .fault .noInstance
  | .dead => .fault .instanceDead
  | .uninitialized => .fault .notReady
  | .ready => .next { s with phase := first }

/-- A bare `RD` or `WR` begins (`42_host_sequences` R130, R131); it needs an instance, whose configuration was checked and which
owns its handle (R137, `60_exceptions` R164), and a dead instance gets no step (R135). -/
def startTransaction (p : Phase) (s : State) : Result :=
  match s.mode with
  | .absent => .fault .noInstance
  | .dead => .fault .instanceDead
  | .uninitialized => .next { s with phase := p }
  | .ready => .next { s with phase := p }

/-- The device is no longer needed: instance, handle and TFD are discarded together (`42_host_sequences` R137; log 11). -/
def discardInstance (s : State) : Result :=
  match s.mode with
  | .absent => .fault .noInstance
  | .dead => .fault .instanceDead
  | .uninitialized => .next (endInstance s)
  | .ready => .next (endInstance s)

/-- The next program line of a host whose instance stands begins (`30_encoding` R66, R67). `REC` delivers any tag unchecked, also
one that `RD` or `WR` produces, of which the spec does not speak: DESIGN CHOICE, safe, log 16. -/
def startOp (op : HostOp) (s : State) : Result :=
  match op with
  | .rd r => startTransaction (.rd r) s
  | .wr r b => if regWritable r then startTransaction (.wr r b) s else .refused (.writeToReadOnly r)
  | .raw tag d => .next (deliver tag d s)
  | .reset => .next (deliverReset s)
  | .sample p => .next (samplePort p s)
  | .construct _ => .fault .alreadyConstructed
  | .init => startInit s
  | .getTemp => startQuery .tempL s
  | .getFaults => startQuery .faultsSr s
  | .discard => discardInstance s

/-- `GETTEMP` ends: the consumer samples `T`, and N counts of 2^-7 degrees are returned (`42_host_sequences` R133). -/
def finishTemp (s : State) : State :=
  countDraw (giveBack (.temperature (useT s).toInt) { s with phase := .idle })

/-- `GETFAULTS` ends: the consumer samples `F`, and the list of active lines is returned (`42_host_sequences` R134). -/
def finishFaults (s : State) : State :=
  countDraw (giveBack (.faults (fdec (useF s))) { s with phase := .idle })

/-- The host acts when no transaction of its own is due: it ends a query, begins the next program line, or, with nothing left
to do, leaves everything as it is (log 2). -/
def hostAct (s : State) : Result :=
  match s.phase with
  | .tempSample => .next (finishTemp s)
  | .faultsSample => .next (finishFaults s)
  | _ =>
    match s.todo with
    | [] => .next s
    | op :: rest => startOp op { s with todo := rest }

/-- The move of a host that has no instance yet: it constructs one, or has nothing to do (log 2). Nothing else can happen: there
is no handle, so no transaction ends or fails, and no TFD to be reset or sampled (`70_reset_and_hazards` R182,
`60_exceptions` R164). -/
def absentStep (s : State) : Result :=
  match s.todo with
  | [] => .next s
  | .construct c :: rest => startConstruct c { s with todo := rest }
  | _ :: _ => .fault .noInstance

/-- The environment's move, made only when nothing stands at the port (`20_memory` R53): an outside reset event, a sampling of
the consumer, which may come between any two steps (`00_scope` R5), else the completion or the failure of the transaction that
is due, which blocks the host while neither has come (`60_exceptions` R161, item U9), else an act of the host. -/
def envStep (s : State) : Result :=
  match busRequest s.phase, s.events with
  | _, .reset :: ev => .next (deliverReset { s with events := ev })
  | _, .sample p :: ev => .next (samplePort p { s with events := ev })
  | some tx, .reply rx0 rx1 :: ev => .next (completeXfer ⟨tx.1, tx.2, rx0, rx1⟩ { s with events := ev })
  | some _, .fail :: ev => .next (failXfer { s with events := ev })
  | some _, [] => .next s
  | none, _ => hostAct s

end Sys2Proof.Machine
end

