-- ==== Sys2Proof/Machine/Step.lean ====
section
/-! DEFINITION. One step: the block accepts what stands first at its input port, else the environment moves. -/

namespace Sys2Proof.Machine

/-- One step of an instance whose TFD exists. A record at the port is accepted and executed (`30_encoding` R68), a reset event
takes effect (`70_reset_and_hazards` R180), the consumer samples (`00_scope` R5); with nothing at the port the block makes no
step and the environment moves (`20_memory` R53). -/
def portStep (s : State) : Host.Outcome State Fault Refusal :=
  match s.input with
  | .record r :: rest => exec (decode r) (takeInput rest s)
  | .reset :: rest => .next (blockReset (takeInput rest s))
  | .sample p :: rest => .next (samplePort p (takeInput rest s))
  | [] => envStep s

/-- One step. Where no TFD exists nothing can reach it: before construction the host alone moves (`70_reset_and_hazards` R182),
and an instance that ended, whose TFD is discarded with it, gets no further step (`42_host_sequences` R135, R137). -/
def step (s : State) : Host.Outcome State Fault Refusal :=
  if s.tfd then portStep s
  else match s.mode with
    | .absent => absentStep s
    | .uninitialized => .fault .instanceDead
    | .ready => .fault .instanceDead
    | .dead => .fault .instanceDead

/-- The state with a row's word standing first at the input port of an existing TFD, so that the next step accepts exactly it
(log 1). -/
def State.withFetchWord (s : State) (nbits w : Nat) : State :=
  { s with tfd := true, input := .record (tableRecord nbits w) :: s.input }

end Sys2Proof.Machine
end

