-- ==== Sys2Proof/Safety.lean ====
section
/-! DEFINITION. The terms claims use: a safe use of the outputs, the invariants of the host and of its queries, the step as
`30_encoding` R68 writes it, and the frames of `40_capture_records` R84. -/

namespace Sys2Proof.Safety

open Sys2Proof.Machine

/-- `k` steps of the machine, stopping at the first fault or refusal. -/
def run (k : Nat) (s : State) : Result := Host.Core.run Sys2Proof.core k s

/-- Two states whose 36 bits are the same (`10_state` R20). -/
structure SameBlock (s t : State) : Prop where
  x0 : s.x0 = t.x0
  x1 : s.x1 = t.x1
  x2 : s.x2 = t.x2
  x3 : s.x3 = t.x3
  v0 : s.v0 = t.v0
  v1 : s.v1 = t.v1
  v2 : s.v2 = t.v2
  v3 : s.v3 = t.v3

/-- A safe use of the outputs: the query that is about to sample a port finds its OK bit at 1 (`10_state` R31, D25). -/
structure SafeUse (s : State) : Prop where
  temperature : s.input = [] → s.phase = .tempSample → portTOk s = true
  faults : s.input = [] → s.phase = .faultsSample → portFOk s = true

/-- The phases of `INIT` (`42_host_sequences` R132). -/
def inInit : Phase → Bool
  | .initCr0 _ => true
  | .initCr1 _ => true
  | .idle => false
  | .rd _ => false
  | .wr _ _ => false
  | .tempL => false
  | .tempM => false
  | .tempH => false
  | .tempSample => false
  | .faultsSr => false
  | .faultsSample => false

/-- The phases of `GETTEMP` and `GETFAULTS` (`42_host_sequences` R133, R134). -/
def inQuery : Phase → Bool
  | .tempL => true
  | .tempM => true
  | .tempH => true
  | .tempSample => true
  | .faultsSr => true
  | .faultsSample => true
  | .idle => false
  | .rd _ => false
  | .wr _ _ => false
  | .initCr0 _ => false
  | .initCr1 _ => false

/-- What the host state machine, the ownership rule, the order of construction and the write rule make true of the host at every
point (`42_host_sequences` R131, R135 to R137; `70_reset_and_hazards` R182). `absentNothing` and `checkFirst`: the check of the
configuration stands before the handle, every transaction and every failure of one (`60_exceptions` R164). -/
structure HostInv (s : State) : Prop where
  together : s.handle = s.tfd
  absentNothing : s.mode = .absent →
    s.handle = false ∧ s.tfd = false ∧ s.phase = .idle ∧ s.cfg = none ∧ s.bus = [] ∧ s.returned = []
  stands : s.mode = .uninitialized ∨ s.mode = .ready → s.tfd = true ∧ s.cfg.isSome = true
  readyOwns : s.mode = .ready → s.handle = true ∧ s.cfg.isSome = true
  deadReleased : s.mode = .dead → s.handle = false ∧ s.phase = .idle ∧ s.tfd = false
  noTfd : s.tfd = false → s.mode = .dead ∨ s.mode = .absent
  busOwned : (busRequest s.phase).isSome = true → s.handle = true
  initOwns : inInit s.phase = true → s.mode = .uninitialized ∧ s.handle = true ∧ s.cfg.isSome = true
  initType : ∀ c tc, s.cfg = some c → s.phase = .initCr0 tc ∨ s.phase = .initCr1 tc → c.tcType = tc
  queryReady : inQuery s.phase = true → s.mode = .ready
  writeLegal : ∀ r b, s.phase = .wr r b → regWritable r = true
  checkFirst : .invalidConfiguration ∈ s.returned → s.returned = [.invalidConfiguration] ∧ s.bus = [] ∧ s.mode = .dead

/-- One record of a tag, and nothing else, stands at the port. -/
def OnePending (tag : Byte) (s : State) : Prop := ∃ d, s.input = [.record (mkRecord tag d)]

/-- How far the frame of the query in progress has come: each of its bytes is captured and flagged, or its record is the one
that stands at the port (`42_host_sequences` R133, R134; `40_capture_records` R84). -/
def QueryProgress (s : State) : Prop :=
  match s.phase with
  | .tempM => OnePending 0x0E s ∨ (s.input = [] ∧ s.v2 = true)
  | .tempH => (OnePending 0x0D s ∧ s.v2 = true) ∨ (s.input = [] ∧ s.v2 = true ∧ s.v1 = true)
  | .tempSample =>
    (OnePending 0x0C s ∧ s.v2 = true ∧ s.v1 = true) ∨ (s.input = [] ∧ s.v2 = true ∧ s.v1 = true ∧ s.v0 = true)
  | .faultsSample => OnePending 0x0F s ∨ (s.input = [] ∧ s.v3 = true)
  | .idle => True
  | .rd _ => True
  | .wr _ _ => True
  | .initCr0 _ => True
  | .initCr1 _ => True
  | .tempL => True
  | .faultsSr => True

/-- The progress of the query in a run into which no outside reset event comes. -/
structure QueryInv (s : State) : Prop where
  noReset : Event.reset ∉ s.events
  progress : QueryProgress s

/-- `x[i] <- v` by index (`00_scope` R10, `10_state` R21). -/
def setXAt (i : BitVec 2) (b : Byte) (s : State) : State :=
  if i = 0#2 then { s with x0 := b } else if i = 1#2 then { s with x1 := b }
  else if i = 2#2 then { s with x2 := b } else { s with x3 := b }

/-- `v[i] <- b` by index (`00_scope` R10, `10_state` R22). -/
def setVAt (i : BitVec 2) (b : Bool) (s : State) : State :=
  if i = 0#2 then { s with v0 := b } else if i = 1#2 then { s with v1 := b }
  else if i = 2#2 then { s with v2 := b } else { s with v3 := b }

/-- The step as `30_encoding` R68 writes it, line by line: "this rule governs". -/
def ruleStep (r : Record) (s : State) : State :=
  let tag := r.extractLsb' 8 8
  let d := r.extractLsb' 0 8
  if tag.extractLsb' 2 6 = 0b000011#6 then
    let i := tag.extractLsb' 0 2
    let s1 := setVAt i true (setXAt i d s)
    let s2 := if i = 2#2 then setVAt 0#2 false (setVAt 1#2 false s1) else s1
    if i = 1#2 then setVAt 0#2 false s2 else s2
  else s

/-- The last in-order frame in a sequence of records (`40_capture_records` R84): a LTCBL with no LTCBL after it, after it a
LTCBM with no LTCBM after it, after that a LTCBH with no LTCBH after it; their data bytes are `l`, `m` and `h`. -/
def LastFrame (rs : List Record) (l m h : Byte) : Prop :=
  ∃ a b c d, rs = a ++ mkRecord 0x0E l :: (b ++ mkRecord 0x0D m :: (c ++ mkRecord 0x0C h :: d)) ∧
    (∀ r ∈ b ++ c ++ d, recTag r ≠ 0x0E) ∧ (∀ r ∈ c ++ d, recTag r ≠ 0x0D) ∧ (∀ r ∈ d, recTag r ≠ 0x0C)

/-- The last status byte in a sequence of records (`40_capture_records` R84). -/
def LastStatus (rs : List Record) (f : Byte) : Prop :=
  ∃ a d, rs = a ++ mkRecord 0x0F f :: d ∧ ∀ r ∈ d, recTag r ≠ 0x0F

/-- An event of the outside comes next, one that no transaction waits for: a reset event or a sampling. -/
def outsideNext : List Event → Bool
  | .reset :: _ => true
  | .sample _ :: _ => true
  | .reply _ _ :: _ => false
  | .fail :: _ => false
  | [] => false

/-- What a consumer gets who samples a port, where the spec says it: the function of the state, if the port's OK bit is 1 or
it has none (`10_state` R31). -/
def sampledValue (p : Port) (s : State) : Option Returned :=
  match p with
  | .t => if portTOk s then some (.sampledT (portT s)) else none
  | .tOk => some (.sampledTOk (s.v0 && s.v1 && s.v2))
  | .f => if portFOk s then some (.sampledF (portF s)) else none
  | .fOk => some (.sampledFOk s.v3)
  | .fcnt => if portFOk s then some (.sampledFcnt (portFcnt s)) else none
  | .inReady => some (.sampledInReady true)

end Sys2Proof.Safety
end

