-- ==== Sys2Proof/Certificates/Slice0/Obligations.lean ====
section
/-! DEFINITION. The statements for the provers; each docstring names the rules it formalises. -/

open Sys2Proof Sys2Proof.Machine Sys2Proof.Safety

/-! ## The records -/

/-- `40_capture_records` R82. -/
def Obligations.CaptureHighByteResult : Prop :=
  ∀ (d : Byte) (s : State),
    encode (.capLtcbh d) = 0x0C00#16 ||| d.zeroExtend 16 ∧
    decode (0x0C00#16 ||| d.zeroExtend 16) = .capLtcbh d ∧
    ∃ t, exec (.capLtcbh d) s = .next t ∧ t = { s with x0 := d, v0 := true } ∧
      portTOk t = (s.v1 && s.v2) ∧ (portT t).extractLsb' 11 8 = d ∧ (portT t).msb = d.msb ∧
      ((portT t).toInt < 0 ↔ d.getLsbD 7 = true)

/-- `40_capture_records` R81. -/
def Obligations.CaptureMiddleByteResult : Prop :=
  ∀ (d : Byte) (s : State),
    encode (.capLtcbm d) = 0x0D00#16 ||| d.zeroExtend 16 ∧
    decode (0x0D00#16 ||| d.zeroExtend 16) = .capLtcbm d ∧
    ∃ t, exec (.capLtcbm d) s = .next t ∧ t = { s with x1 := d, v1 := true, v0 := false } ∧
      portTOk t = false ∧ (portT t).extractLsb' 3 8 = d

/-- `40_capture_records` R80. -/
def Obligations.CaptureLowByteResult : Prop :=
  ∀ (d : Byte) (s : State),
    encode (.capLtcbl d) = 0x0E00#16 ||| d.zeroExtend 16 ∧
    decode (0x0E00#16 ||| d.zeroExtend 16) = .capLtcbl d ∧
    ∃ t, exec (.capLtcbl d) s = .next t ∧ t = { s with x2 := d, v2 := true, v1 := false, v0 := false } ∧
      portTOk t = false ∧ (portT t).extractLsb' 0 3 = d.extractLsb' 5 3 ∧
      (portT t).extractLsb' 3 16 = (portT s).extractLsb' 3 16

/-- `40_capture_records` R83. -/
def Obligations.CaptureStatusResult : Prop :=
  ∀ (d : Byte) (s : State),
    encode (.capSr d) = 0x0F00#16 ||| d.zeroExtend 16 ∧
    decode (0x0F00#16 ||| d.zeroExtend 16) = .capSr d ∧
    ∃ t, exec (.capSr d) s = .next t ∧ t = { s with x3 := d, v3 := true } ∧
      portF t = d ∧ portFOk t = true ∧ (portFcnt t).toNat = popcount d ∧ portT t = portT s ∧ portTOk t = portTOk s

/-- `41_passthrough_records` R117, for each of the records of that file. -/
def Obligations.PassThroughRecordsChangeNothing : Prop :=
  ∀ (d : Byte) (z : BitVec 3) (a : BitVec 4) (s : State),
    (exec (.rdCr0 d) s = .next s ∧ exec (.rdCr1 d) s = .next s ∧ exec (.rdMask d) s = .next s ∧
     exec (.rdCjhf d) s = .next s ∧ exec (.rdCjlf d) s = .next s ∧ exec (.rdFth0 d) s = .next s ∧
     exec (.rdFth1 d) s = .next s ∧ exec (.rdFth2 d) s = .next s ∧ exec (.rdFth3 d) s = .next s ∧
     exec (.rdCjto d) s = .next s ∧ exec (.rdCjth d) s = .next s ∧ exec (.rdCjtl d) s = .next s) ∧
    (exec (.wrCr0 d) s = .next s ∧ exec (.wrCr1 d) s = .next s ∧ exec (.wrMask d) s = .next s ∧
     exec (.wrCjhf d) s = .next s ∧ exec (.wrCjlf d) s = .next s ∧ exec (.wrFth0 d) s = .next s ∧
     exec (.wrFth1 d) s = .next s ∧ exec (.wrFth2 d) s = .next s ∧ exec (.wrFth3 d) s = .next s ∧
     exec (.wrCjto d) s = .next s ∧ exec (.wrCjth d) s = .next s ∧ exec (.wrCjtl d) s = .next s) ∧
    (exec (.rsvdWro a d) s = .next s ∧ exec (.rsvdRd10 a d) s = .next s ∧ exec (.rsvdRd20 z a d) s = .next s ∧
     exec (.rsvdRd40 z a d) s = .next s ∧ exec (.rsvdWr90 a d) s = .next s ∧ exec (.rsvdWrA0 z a d) s = .next s ∧
     exec (.rsvdWrC0 z a d) s = .next s)

/-- `41_passthrough_records` R90 to R101: the twelve read tags and what their records do. -/
def Obligations.PassThroughReadsByWord : Prop :=
  ∀ (d : Byte) (s : State),
    (decode (0x0000#16 ||| d.zeroExtend 16) = .rdCr0 d ∧ exec (.rdCr0 d) s = .next s) ∧
    (decode (0x0100#16 ||| d.zeroExtend 16) = .rdCr1 d ∧ exec (.rdCr1 d) s = .next s) ∧
    (decode (0x0200#16 ||| d.zeroExtend 16) = .rdMask d ∧ exec (.rdMask d) s = .next s) ∧
    (decode (0x0300#16 ||| d.zeroExtend 16) = .rdCjhf d ∧ exec (.rdCjhf d) s = .next s) ∧
    (decode (0x0400#16 ||| d.zeroExtend 16) = .rdCjlf d ∧ exec (.rdCjlf d) s = .next s) ∧
    (decode (0x0500#16 ||| d.zeroExtend 16) = .rdFth0 d ∧ exec (.rdFth0 d) s = .next s) ∧
    (decode (0x0600#16 ||| d.zeroExtend 16) = .rdFth1 d ∧ exec (.rdFth1 d) s = .next s) ∧
    (decode (0x0700#16 ||| d.zeroExtend 16) = .rdFth2 d ∧ exec (.rdFth2 d) s = .next s) ∧
    (decode (0x0800#16 ||| d.zeroExtend 16) = .rdFth3 d ∧ exec (.rdFth3 d) s = .next s) ∧
    (decode (0x0900#16 ||| d.zeroExtend 16) = .rdCjto d ∧ exec (.rdCjto d) s = .next s) ∧
    (decode (0x0A00#16 ||| d.zeroExtend 16) = .rdCjth d ∧ exec (.rdCjth d) s = .next s) ∧
    (decode (0x0B00#16 ||| d.zeroExtend 16) = .rdCjtl d ∧ exec (.rdCjtl d) s = .next s)

/-- `41_passthrough_records` R102 to R113: the twelve write tags and what their records do. -/
def Obligations.PassThroughWritesByWord : Prop :=
  ∀ (d : Byte) (s : State),
    (decode (0x8000#16 ||| d.zeroExtend 16) = .wrCr0 d ∧ exec (.wrCr0 d) s = .next s) ∧
    (decode (0x8100#16 ||| d.zeroExtend 16) = .wrCr1 d ∧ exec (.wrCr1 d) s = .next s) ∧
    (decode (0x8200#16 ||| d.zeroExtend 16) = .wrMask d ∧ exec (.wrMask d) s = .next s) ∧
    (decode (0x8300#16 ||| d.zeroExtend 16) = .wrCjhf d ∧ exec (.wrCjhf d) s = .next s) ∧
    (decode (0x8400#16 ||| d.zeroExtend 16) = .wrCjlf d ∧ exec (.wrCjlf d) s = .next s) ∧
    (decode (0x8500#16 ||| d.zeroExtend 16) = .wrFth0 d ∧ exec (.wrFth0 d) s = .next s) ∧
    (decode (0x8600#16 ||| d.zeroExtend 16) = .wrFth1 d ∧ exec (.wrFth1 d) s = .next s) ∧
    (decode (0x8700#16 ||| d.zeroExtend 16) = .wrFth2 d ∧ exec (.wrFth2 d) s = .next s) ∧
    (decode (0x8800#16 ||| d.zeroExtend 16) = .wrFth3 d ∧ exec (.wrFth3 d) s = .next s) ∧
    (decode (0x8900#16 ||| d.zeroExtend 16) = .wrCjto d ∧ exec (.wrCjto d) s = .next s) ∧
    (decode (0x8A00#16 ||| d.zeroExtend 16) = .wrCjth d ∧ exec (.wrCjth d) s = .next s) ∧
    (decode (0x8B00#16 ||| d.zeroExtend 16) = .wrCjtl d ∧ exec (.wrCjtl d) s = .next s)

/-- `41_passthrough_records` R114 to R116, `30_encoding` R64: a record of a reserved tag is ignored, the look-alikes of the
captures among them. -/
def Obligations.ReservedTagsAreIgnored : Prop :=
  ∀ (t d : Byte) (s : State), 0x10 ≤ t → t ≤ 0x7F ∨ 0x8C ≤ t →
    exec (decode (mkRecord t d)) s = .next s ∧
    (decode (mkRecord t d)).mnemonic =
      (if t ≤ 0x7F then "RSVD.RD" else if t ≤ 0x8F then "RSVD.WRO" else "RSVD.WR")

/-- `30_encoding` R68, R160 of `60_exceptions`: every record completes in every state, and touches nothing but the 36 bits. -/
def Obligations.RecordsCompleteAndTouchOnlyTheBlock : Prop :=
  ∀ (i : Instr) (s : State), ∃ t, exec i s = .next t ∧
    t = { s with x0 := t.x0, x1 := t.x1, x2 := t.x2, x3 := t.x3, v0 := t.v0, v1 := t.v1, v2 := t.v2, v3 := t.v3 }

/-! ## Encoding -/

/-- A step accepts the record first at the port and runs what it decodes to (`30_encoding` R68, `70_reset_and_hazards` R189).
The port as a list is the model's (log 1). Where no TFD exists (`42_host_sequences` R137) nothing is taken. -/
def Obligations.StepRunsTheDecodedRecord : Prop :=
  ∀ (s : State) (r : Record) (rest : List PortEvent), s.input = .record r :: rest →
    (decode r).wellFormed = true ∧ (s.tfd = true → step s = exec (decode r) { s with input := rest }) ∧
    (s.tfd = false → (s.mode ≠ .absent → step s = .fault .instanceDead) ∧ ∀ t, step s = .next t → t.input = s.input)

/-- The step of an existing TFD is the pseudocode of `30_encoding` R68 for every one of the 65536 records, and no step that
accepts no record changes the block, but for the reset event. -/
def Obligations.StepIsRuleR68 : Prop :=
  (∀ (s : State) (r : Record) (rest : List PortEvent), s.tfd = true → s.input = .record r :: rest →
    step s = .next (ruleStep r { s with input := rest })) ∧
  (∀ s t : State, s.tfd = true → (∀ r rest, s.input ≠ .record r :: rest) → (∀ rest, s.input ≠ .reset :: rest) →
    step s = .next t → SameBlock s t)

/-- Decode and encode agree on every well-formed record (`30_encoding` R60, R61). -/
def Obligations.DecodeOfEncodeIsTheRecord : Prop :=
  ∀ i : Instr, i.wellFormed = true → decode (encode i) = i

/-- Every word is the encoding of the one record it decodes to (`30_encoding` R63, R65). -/
def Obligations.EncodeOfDecodeIsTheWord : Prop :=
  ∀ r : Record, (decode r).wellFormed = true ∧ encode (decode r) = r

/-- Every word lies in exactly one row of the opcode table, the row of the record it decodes to (`30_encoding` R63). -/
def Obligations.EveryWordLiesInExactlyItsRow : Prop :=
  ∀ r : Record, opcodeRows.filter (fun row => row.holds r) = [⟨(decode r).rowMatch, (decode r).rowMask⟩]

/-- The data byte never selects the operation (`30_encoding` R63). -/
def Obligations.TagAloneSelectsTheRow : Prop :=
  ∀ t d d' : Byte, (decode (mkRecord t d)).mnemonic = (decode (mkRecord t d')).mnemonic ∧
    (decode (mkRecord t d)).rowMatch = (decode (mkRecord t d')).rowMatch ∧ (decode (mkRecord t d)).data = d

/-- Words of `30_encoding` R63, R66 and of `95_test_vectors` section 3.2, one of each family. -/
def Obligations.WordsOfTheSpecDecode : Prop :=
  decode 0x0C19 = .capLtcbh 0x19 ∧ decode 0x0EE0 = .capLtcbl 0xE0 ∧ decode 0x0123 = .rdCr1 0x23 ∧
  decode 0x8080 = .wrCr0 0x80 ∧ decode 0x8CFF = .rsvdWro 12 0xFF ∧ decode 0x1C19 = .rsvdRd10 12 0x19 ∧
  decode 0x4E00 = .rsvdRd40 4 14 0x00 ∧ decode 0xCC00 = .rsvdWrC0 4 12 0x00

/-! ## The block over time -/

/-- `40_capture_records` R84, over every sequence of records after a reset event, from every state. -/
def Obligations.FrameInvariantAfterReset : Prop :=
  ∀ (s : State) (rs : List Record), s.tfd = true → s.input = .reset :: rs.map .record →
    ∃ t, run (rs.length + 1) s = .next t ∧ t.input = [] ∧
      (portTOk t = true ↔ ∃ l m h, LastFrame rs l m h) ∧
      (∀ l m h, LastFrame rs l m h → t.x2 = l ∧ t.x1 = m ∧ t.x0 = h) ∧
      (portFOk t = true ↔ ∃ f, LastStatus rs f) ∧
      (∀ f, LastStatus rs f → t.x3 = f)

/-- `10_state` R21: a capture register is written by its own capture record and by nothing else, the reset event apart. -/
def Obligations.CaptureRegisterHasOneWriter : Prop :=
  ∀ s t : State, step s = .next t →
    (∃ rest, s.input = .reset :: rest) ∨
    ((t.x0 = s.x0 ∨ ∃ rest, s.input = .record (mkRecord 0x0C t.x0) :: rest) ∧
     (t.x1 = s.x1 ∨ ∃ rest, s.input = .record (mkRecord 0x0D t.x1) :: rest) ∧
     (t.x2 = s.x2 ∨ ∃ rest, s.input = .record (mkRecord 0x0E t.x2) :: rest) ∧
     (t.x3 = s.x3 ∨ ∃ rest, s.input = .record (mkRecord 0x0F t.x3) :: rest))

/-- `10_state` R24, `43_temperature_decode` R146: what a record does to the block depends on the block and the record alone. -/
def Obligations.BlockIgnoresItsEnvironment : Prop :=
  ∀ (s s' : State) (r : Record) (rest rest' : List PortEvent), SameBlock s s' → s.tfd = true → s'.tfd = true →
    s.input = .record r :: rest → s'.input = .record r :: rest' →
    ∃ t t', step s = .next t ∧ step s' = .next t' ∧ SameBlock t t'

/-- `70_reset_and_hazards` R180: the whole effect of the reset event. Nothing is said of the capture registers, which it
leaves unspecified. -/
def Obligations.ResetEventEffect : Prop :=
  ∀ (s : State) (rest : List PortEvent), s.tfd = true → s.input = .reset :: rest →
    ∃ t, step s = .next t ∧ t.v0 = false ∧ t.v1 = false ∧ t.v2 = false ∧ t.v3 = false ∧ t.input = rest ∧
      t.mode = s.mode ∧ t.cfg = s.cfg ∧ t.handle = s.handle ∧ t.tfd = true ∧ t.phase = s.phase ∧ t.todo = s.todo ∧
      t.events = s.events ∧ t.bus = s.bus ∧ t.returned = s.returned

/-- `70_reset_and_hazards` R180: an outside reset event may come between any two records of the host. That it waits in
`State.events` and reaches the port when the port is empty is the model's choice (logs 6 and 15). -/
def Obligations.OutsideResetReachesThePort : Prop :=
  ∀ (s : State) (ev : List Event), s.tfd = true → s.input = [] → s.events = .reset :: ev →
    step s = .next { s with events := ev, input := [.reset] }

/-- `10_state` R30, `70_reset_and_hazards` R181: reset with any contents of the capture registers (`RESET_X`) and any checked
configuration (`00_scope` R7, R8). It rests on no value the model chose for them (log 3). That instance, handle and TFD
(`42_host_sequences` R137) stand at launch is log 11. -/
def Obligations.ResetLeavesNothingUsable : Prop :=
  ∀ (rx : Cap → Byte) (cfg : DeviceConfig),
    (State.launch rx cfg).v0 = false ∧ (State.launch rx cfg).v1 = false ∧ (State.launch rx cfg).v2 = false ∧
    (State.launch rx cfg).v3 = false ∧ portTOk (State.launch rx cfg) = false ∧ portFOk (State.launch rx cfg) = false ∧
    portInReady (State.launch rx cfg) = true ∧ (State.launch rx cfg).tfd = true ∧ (State.launch rx cfg).handle = true ∧
    (State.launch rx cfg).mode = .uninitialized ∧ (State.launch rx cfg).cfg = some cfg ∧
    readX .hsb (State.launch rx cfg) = rx .hsb ∧ readX .msb (State.launch rx cfg) = rx .msb ∧
    readX .lsb (State.launch rx cfg) = rx .lsb ∧ readX .sr (State.launch rx cfg) = rx .sr

/-! ## The temperature decode -/

/-- `43_temperature_decode` R141. -/
def Obligations.TdecIsTheSignExtendedField : Prop :=
  ∀ l m h : Byte,
    tdec l m h = ((word24 l m h).extractLsb' 5 19).toInt ∧
    (word24 l m h).extractLsb' 5 19 = h ++ m ++ l.extractLsb' 5 3 ∧
    ((word24 l m h).extractLsb' 5 19).getLsbD 18 = h.getLsbD 7 ∧
    (tdecMagnitude l m h : Int) = (((word24 l m h).extractLsb' 5 19).toNat : Int) - 262144 * (h.getLsbD 7).toNat ∧
    tdec l m h = (((word24 l m h).extractLsb' 5 19).toNat : Int) - 524288 * (h.getLsbD 7).toNat

/-- `43_temperature_decode` R143. -/
def Obligations.TdecRangeIsExactlyTheField : Prop :=
  (∀ l m h : Byte, -262144 ≤ tdec l m h ∧ tdec l m h ≤ 262143 ∧
    -2048 ≤ celsius (tdec l m h) ∧ celsius (tdec l m h) ≤ 20479921875 / 10000000) ∧
  (∀ n : Int, -262144 ≤ n → n ≤ 262143 → ∃ l m h : Byte, tdec l m h = n) ∧
  (∀ n : Int, celsius (n + 1) - celsius n = 78125 / 10000000)

/-- `43_temperature_decode` R147. -/
def Obligations.TdecIgnoresTheDiscardedBits : Prop :=
  ∀ (a b m h : Byte) (s : State), a.extractLsb' 5 3 = b.extractLsb' 5 3 →
    tdec a m h = tdec b m h ∧ portT { s with x2 := a } = portT { s with x2 := b }

/-- `43_temperature_decode` R148; the last clause is the implementation in 32-bit signed arithmetic. -/
def Obligations.TdecIntermediateBounds : Prop :=
  ∀ l m h : Byte,
    (h &&& 0x7F).toNat ≤ 127 ∧ (h &&& 0x7F).toNat <<< 16 ≤ 0x7F0000 ∧ m.toNat <<< 8 ≤ 0xFF00 ∧ l.toNat ≤ 0xFF ∧
    tdecCompose l m h = (h &&& 0x7F).toNat * 65536 + m.toNat * 256 + l.toNat ∧
    tdecCompose l m h ≤ 0x7FFFFF ∧ tdecMagnitude l m h = tdecCompose l m h / 32 ∧ tdecMagnitude l m h ≤ 262143 ∧
    tdec l m h = (tdecMagnitude l m h : Int) - 262144 * (h.getLsbD 7).toNat ∧
    -262144 ≤ tdec l m h ∧ tdec l m h ≤ 262143 ∧
    ((((h &&& 0x7F).zeroExtend 32 <<< 16) ||| (m.zeroExtend 32 <<< 8) ||| l.zeroExtend 32).sshiftRight 5 -
      (if h.getLsbD 7 then 262144#32 else 0#32)).toInt = tdec l m h

/-- `43_temperature_decode` R142: the weights by byte. -/
def Obligations.TemperatureIsTheSumOfBitWeights : Prop :=
  ∀ l m h : Byte,
    celsius (tdec l m h) = (tdec l m h : Rat) / 128 ∧
    celsius (tdec l m h) =
      -2048 * (h.getLsbD 7).toNat + 1024 * (h.getLsbD 6).toNat + 512 * (h.getLsbD 5).toNat +
      256 * (h.getLsbD 4).toNat + 128 * (h.getLsbD 3).toNat + 64 * (h.getLsbD 2).toNat +
      32 * (h.getLsbD 1).toNat + 16 * (h.getLsbD 0).toNat +
      8 * (m.getLsbD 7).toNat + 4 * (m.getLsbD 6).toNat + 2 * (m.getLsbD 5).toNat + 1 * (m.getLsbD 4).toNat +
      (m.getLsbD 3).toNat / 2 + (m.getLsbD 2).toNat / 4 + (m.getLsbD 1).toNat / 8 + (m.getLsbD 0).toNat / 16 +
      (l.getLsbD 7).toNat / 32 + (l.getLsbD 6).toNat / 64 + (l.getLsbD 5).toNat / 128

/-- `43_temperature_decode` R144: in every state, whatever `T_OK` is. -/
def Obligations.PortTIsTdecOfTheRegisters : Prop :=
  ∀ s : State, (portT s).toInt = tdec s.x2 s.x1 s.x0 ∧ portT s = s.x0 ++ s.x1 ++ s.x2.extractLsb' 5 3

/-- `43_temperature_decode` R146. -/
def Obligations.PortTDependsOnThreeBytesAlone : Prop :=
  ∀ s t : State, s.x0 = t.x0 → s.x1 = t.x1 → s.x2 = t.x2 → portT s = portT t

/-- `43_temperature_decode` R150. -/
def Obligations.EncodeTemperatureRoundTrip : Prop :=
  ∀ t : Rat, -2048 ≤ t → t < 2048 →
    -262144 ≤ encCount t ∧ encCount t ≤ 262143 ∧
    tdec (encLsb (encCount t)) (encMsb (encCount t)) (encHsb (encCount t)) = encCount t ∧
    0 ≤ t - celsius (encCount t) ∧ t - celsius (encCount t) < 1 / 128 ∧
    (∀ k : Int, t = celsius k → celsius (encCount t) = t)

/-- The concrete case of the source with the expectation of conflict C1. -/
def Obligations.ConcreteCaseIs400Degrees : Prop :=
  tdecCompose 0x00 0x00 0x19 = 1638400 ∧ tdecMagnitude 0x00 0x00 0x19 = 51200 ∧ tdec 0x00 0x00 0x19 = 51200 ∧
  celsius (tdec 0x00 0x00 0x19) = 400 ∧ celsius (tdec 0x00 0x40 0x06) = 100

/-! ## The fault decode -/

/-- `44_fault_decode` R151. -/
def Obligations.FdecListsTheSetBitsInOrder : Prop :=
  ∀ (b : Byte) (p : Config.LabelParams),
    (fdec b).Pairwise (fun k l => faultIndex k < faultIndex l) ∧
    (∀ l, l ∈ fdec b ↔ b.getLsbD (faultIndex l) = true) ∧ (fdec b).length ≤ 8 ∧
    fdecLabels p b = (fdec b).map (faultLabel p)

/-- `44_fault_decode` R157. -/
def Obligations.FdecIsMonotone : Prop :=
  (∀ (a b : Byte) (p : Config.LabelParams), a &&& b = a →
    (fdec a).Sublist (fdec b) ∧ (fdecLabels p a).Sublist (fdecLabels p b)) ∧
  popcount 0x04 < popcount 0x03 ∧ FaultLine.fTclow ∈ fdec 0x04 ∧ FaultLine.fTclow ∉ fdec 0x03

/-- `44_fault_decode` R155. -/
def Obligations.FcntIsTheLengthOfTheList : Prop :=
  ∀ s : State, (portFcnt s).toNat = popcount s.x3 ∧ (portFcnt s).toNat = (fdec s.x3).length ∧ (portFcnt s).toNat ≤ 8

/-- `44_fault_decode` R154. -/
def Obligations.FaultPortsCarryTheList : Prop :=
  (∀ s : State, portF s = s.x3 ∧ portFOk s = s.v3 ∧ ∀ l, portLine l s = true ↔ l ∈ fdec (portF s)) ∧
  (∀ a b : Byte, fdec a = fdec b → a = b)

/-- `44_fault_decode` R156. -/
def Obligations.EmptyFaultListIsAResult : Prop :=
  (∀ b : Byte, fdec b = [] ↔ b = 0) ∧
  (∀ s : State, ∃ t, exec (.capSr 0x00) s = .next t ∧ portF t = 0x00 ∧ portFcnt t = 0 ∧ portFOk t = true) ∧
  (∀ (rx : Cap → Byte) (cfg : DeviceConfig), portFOk (State.launch rx cfg) = false)

/-- `44_fault_decode` R153, its table: the two labels of the source stand whatever the parameter is. The six others are a
parameter, and the second clause says what its chosen defaults are, no string of the source (log 13). -/
def Obligations.FaultLabelTable : Prop :=
  (∀ p : Config.LabelParams, fdecLabels p 0x05 =
    ["Thermocouple Open-Circuit Fault", "Thermocouple Temperature Low Fault"]) ∧
  fdecLabels {} 0xFF =
    ["Thermocouple Open-Circuit Fault", "Over/Undervoltage Fault", "Thermocouple Temperature Low Fault",
     "Thermocouple Temperature High Fault", "Cold-Junction Low Fault", "Cold-Junction High Fault",
     "Thermocouple Temperature Out-of-Range Fault", "Cold-Junction Out-of-Range Fault"]

/-- `44_fault_decode` R158: the status byte and its flag have no effect on the temperature ports, and nothing is raised. The
rule says nothing of a use of `T` while `T_OK = 0`: that the free value of such a use does not depend on the status byte either
is the model's choice (log 5). -/
def Obligations.FaultByteLeavesTheTemperature : Prop :=
  ∀ (s : State) (b : Byte) (f : Bool),
    portT { s with x3 := b, v3 := f } = portT s ∧ portTOk { s with x3 := b, v3 := f } = portTOk s ∧
    useT { s with x3 := b, v3 := f } = useT s ∧
    ∀ i : Instr, ∃ t, exec i { s with x3 := b, v3 := f } = .next t

/-! ## The environment's tables -/

/-- `20_memory` R41; the last clause: the tags that name no register. -/
def Obligations.TagsOfTheRegisterMap : Prop :=
  (∀ r : Reg, readTag r = regAddr r ∧ readTag r ≤ 0x0F ∧ writeTag r = regAddr r ||| 0x80 ∧
    writeTag r ^^^ readTag r = 0x80 ∧ (regWritable r = true ↔ regAddr r ≤ 0x0B) ∧
    writeAddr? r = (if regAddr r ≤ 0x0B then some (regAddr r ||| 0x80) else none)) ∧
  (∀ r q : Reg, regAddr r = regAddr q → r = q) ∧
  (∀ t : Byte, (∀ r : Reg, readTag r ≠ t ∧ writeAddr? r ≠ some t) ↔ (0x10 ≤ t ∧ t ≤ 0x7F) ∨ 0x8C ≤ t)

/-- `10_state` R26: the byte `INIT` writes to CR1, and its fields. -/
def Obligations.Cr1ByteFields : Prop :=
  ∀ tc : TcType, cr1Byte tc = 0x20 ||| tcCode tc ∧ (cr1Byte tc).getLsbD 7 = false ∧ cr1Selector (cr1Byte tc) = 2 ∧
    cr1Type (cr1Byte tc) = some tc ∧ tcOfCode (tcCode tc).toNat = some tc ∧ (tcCode tc).toNat ≤ 7

/-! ## Transactions -/

/-- `20_memory` R42, `42_host_sequences` R130: a read that completes. The containers of replies, of recorded transactions and
of returned values are the model's (logs 6 to 8). -/
def Obligations.ReadTransactionCompletes : Prop :=
  ∀ (s : State) (r : Reg) (rx0 rx1 : Byte) (ev : List Event),
    s.tfd = true → s.input = [] → s.phase = .rd r → s.events = .reply rx0 rx1 :: ev →
    step s = .next { s with
      phase := .idle, events := ev, bus := s.bus ++ [⟨regAddr r &&& 0x7F, 0x00, rx0, rx1⟩],
      input := [.record (mkRecord (regAddr r) rx1)], returned := s.returned ++ [.readByte rx1] }

/-- `20_memory` R43, `42_host_sequences` R131: a write that completes, and its record, which changes nothing. Containers:
logs 6 to 8. -/
def Obligations.WriteTransactionCompletes : Prop :=
  ∀ (s : State) (r : Reg) (b rx0 rx1 : Byte) (ev : List Event),
    s.tfd = true → s.input = [] → s.phase = .wr r b → s.events = .reply rx0 rx1 :: ev →
    ∃ t, step s = .next t ∧ t = { s with
        phase := .idle, events := ev, bus := s.bus ++ [⟨regAddr r ||| 0x80, b, rx0, rx1⟩],
        input := [.record (mkRecord (regAddr r ||| 0x80) b)], returned := s.returned ++ [.written] } ∧
      step t = .next { t with input := [] }

/-- `42_host_sequences` R131, `41_passthrough_records` R114: a write to a read-only register is refused; the form of the
refusal is the model's (log 12). -/
def Obligations.WriteToReadOnlyIsRefused : Prop :=
  ∀ (s : State) (r : Reg) (b : Byte) (ops : List HostOp),
    s.tfd = true → s.input = [] → s.phase = .idle → outsideNext s.events = false → s.todo = .wr r b :: ops →
    (r = .ltcbh ∨ r = .ltcbm ∨ r = .ltcbl ∨ r = .sr) → step s = .refused (.writeToReadOnly r)

/-- `60_exceptions` R161: a transaction that fails, and one that never ends. That an exhausted `State.events` is a transaction
that never ends, and when a failed `INIT` discards handle and TFD (`42_host_sequences` R137), are logs 6 and 11. -/
def Obligations.TransportFailureEffect : Prop :=
  (∀ (s : State) (tx : Byte × Byte) (ev : List Event),
    s.tfd = true → s.input = [] → busRequest s.phase = some tx → s.events = .fail :: ev →
    ∃ t, step s = .next t ∧ SameBlock s t ∧ t.input = [] ∧ t.bus = s.bus ∧ t.events = ev ∧ t.todo = s.todo ∧
      t.phase = .idle ∧ t.cfg = s.cfg ∧ t.returned = s.returned ++ [.transportFailure] ∧
      t.mode = (if inInit s.phase then .dead else s.mode) ∧
      t.handle = (if inInit s.phase then false else s.handle) ∧ t.tfd = !inInit s.phase) ∧
  (∀ (s : State) (tx : Byte × Byte), s.tfd = true → s.input = [] → busRequest s.phase = some tx → s.events = [] → step s = .next s)

/-- `20_memory` R53: one record per completed transaction, in issue order, and only when the one before was accepted. -/
def Obligations.OneRecordPerCompletedTransaction : Prop :=
  ∀ s t : State, step s = .next t →
    t.bus = s.bus ∨
    ∃ x : Xfer, t.bus = s.bus ++ [x] ∧ s.input = [] ∧ t.input = [.record (mkRecord x.tx0 (xferData x))] ∧
      busRequest s.phase = some (x.tx0, x.tx1)

/-! ## Host sequences -/

/-- `70_reset_and_hazards` R182 (1) and (2), `42_host_sequences` R136, R137, `60_exceptions` R162: the configuration is checked
first, and the handle is acquired, with the instance and its TFD, only if it passed; the TFD is then in the block's initial
state, and from the state before construction this leads to the launch state. A rejected construction is dead (R166), read so by
the model (log 11, DEDUCED). -/
def Obligations.InvalidConfigurationIsRejected : Prop :=
  (∀ (s : State) (c : ConfigRequest) (ops : List HostOp),
    s.tfd = false → s.mode = .absent → s.todo = .construct c :: ops →
    (7 < c.tcCode ∨ c.busId < 0 ∨ c.deviceId < 0 →
      step s = .next { s with
        todo := ops, mode := .dead, handle := false, phase := .idle, returned := s.returned ++ [.invalidConfiguration] }) ∧
    (c.tcCode ≤ 7 → 0 ≤ c.busId → 0 ≤ c.deviceId →
      ∃ tc, (tcCode tc).toNat = c.tcCode ∧ step s = .next { s with
        todo := ops, mode := .uninitialized, cfg := some ⟨c.busId.toNat, c.deviceId.toNat, tc⟩, handle := true, tfd := true,
        phase := .idle, v0 := false, v1 := false, v2 := false, v3 := false })) ∧
  (∀ (rx : Cap → Byte) (c : ConfigRequest) (cfg : DeviceConfig), checkConfig c = some cfg →
    step { State.unbuilt rx with todo := [.construct c] } = .next (State.launch rx cfg))

/-- `42_host_sequences` R132, R135: an `INIT` whose two writes succeed; the block's 36 bits, the configuration and the ownership
of the handle are as before. The number of steps is the model's (log 7), and that the type of `INIT` is the configuration's is
log 11. -/
def Obligations.InitWritesCr0ThenCr1 : Prop :=
  ∀ (s : State) (cfg : DeviceConfig) (ops : List HostOp) (a0 a1 b0 b1 : Byte) (ev : List Event),
    s.tfd = true → s.input = [] → s.phase = .idle → s.mode = .uninitialized → s.todo = .init :: ops →
    s.cfg = some cfg → s.events = .reply a0 a1 :: .reply b0 b1 :: ev →
    run 5 s = .next { s with
      todo := ops, mode := .ready, events := ev,
      bus := s.bus ++ [⟨0x80, 0x80, a0, a1⟩, ⟨0x81, 0x20 ||| tcCode cfg.tcType, b0, b1⟩],
      returned := s.returned ++ [.constructed] }

/-- `10_state` R26, `42_host_sequences` R132: what the chip has been told when `INIT` is done, read from the recorded
transactions (log 9). -/
def Obligations.InitConfiguresTheChip : Prop :=
  ∀ (s : State) (cfg : DeviceConfig) (ops : List HostOp) (a0 a1 b0 b1 : Byte) (ev : List Event),
    s.tfd = true → s.input = [] → s.phase = .idle → s.mode = .uninitialized → s.todo = .init :: ops →
    s.cfg = some cfg → s.events = .reply a0 a1 :: .reply b0 b1 :: ev →
    ∃ t, run 5 s = .next t ∧ (lastWritten .cr0 t.bus).bind cr0Conversion = some .continuous ∧
      (lastWritten .cr1 t.bus).bind cr1Type = some cfg.tcType ∧
      (lastWritten .cr1 t.bus).map cr1Selector = some 2

/-- `42_host_sequences` R133: a `GETTEMP` whose three reads are answered `l`, `m`, `h` returns `TDEC(l, m, h)`. The number of
steps and the counter `draws` are the model's (logs 5 and 7); nothing of the outside comes before the last act. -/
def Obligations.GetTempReturnsTdecOfTheReplies : Prop :=
  ∀ (s : State) (ops : List HostOp) (l m h a b c : Byte) (ev : List Event),
    s.tfd = true → s.input = [] → s.phase = .idle → s.mode = .ready → s.todo = .getTemp :: ops →
    s.events = .reply a l :: .reply b m :: .reply c h :: ev → outsideNext ev = false →
    run 8 s = .next { s with
      x0 := h, x1 := m, x2 := l, v0 := true, v1 := true, v2 := true, todo := ops, events := ev,
      bus := s.bus ++ [⟨0x0E, 0x00, a, l⟩, ⟨0x0D, 0x00, b, m⟩, ⟨0x0C, 0x00, c, h⟩],
      returned := s.returned ++ [.temperature (tdec l m h)], draws := s.draws + 1 }

/-- `42_host_sequences` R134: a `GETFAULTS` whose read is answered `b` returns `FDEC(b)`. The number of steps and the counter
`draws` are the model's (logs 5 and 7). -/
def Obligations.GetFaultsReturnsFdecOfTheReply : Prop :=
  ∀ (s : State) (ops : List HostOp) (a b : Byte) (ev : List Event),
    s.tfd = true → s.input = [] → s.phase = .idle → s.mode = .ready → s.todo = .getFaults :: ops →
    s.events = .reply a b :: ev → outsideNext ev = false →
    run 4 s = .next { s with
      x3 := b, v3 := true, todo := ops, events := ev, bus := s.bus ++ [⟨0x0F, 0x00, a, b⟩],
      returned := s.returned ++ [.faults (fdec b)], draws := s.draws + 1 }

/-- `42_host_sequences` R133, `70_reset_and_hazards` R187: a `GETTEMP` whose first, second or third read fails. The numbers of
steps are the model's (log 7). -/
def Obligations.GetTempFailureLeavesNoMixedFrame : Prop :=
  ∀ (s : State) (ops : List HostOp) (ev : List Event),
    s.tfd = true → s.input = [] → s.phase = .idle → s.mode = .ready → s.todo = .getTemp :: ops →
    (s.events = .fail :: ev → run 2 s = .next { s with
      todo := ops, events := ev, returned := s.returned ++ [.transportFailure] }) ∧
    (∀ a l : Byte, s.events = .reply a l :: .fail :: ev →
      ∃ t, run 4 s = .next t ∧ portTOk t = false ∧ t.x2 = l ∧ t.x1 = s.x1 ∧ t.x0 = s.x0 ∧ t.mode = .ready ∧
        t.phase = .idle ∧ t.returned = s.returned ++ [.transportFailure]) ∧
    (∀ a l b m : Byte, s.events = .reply a l :: .reply b m :: .fail :: ev →
      ∃ t, run 6 s = .next t ∧ portTOk t = false ∧ t.x2 = l ∧ t.x1 = m ∧ t.x0 = s.x0 ∧ t.mode = .ready ∧
        t.phase = .idle ∧ t.returned = s.returned ++ [.transportFailure])

/-- `42_host_sequences` R135: where the host state machine gives no move; R137, `70_reset_and_hazards` R182: before construction
nothing but `construct` is done, an instance is constructed once, and one that ends is discarded with its handle and its TFD, and
nothing steps after that. The names of the stops are the model's (log 12), and so are the program lines that begin and end an
instance (log 11). -/
def Obligations.HostOperationsStopOutsideTheirState : Prop :=
  (∀ (s : State) (ops : List HostOp) (c : ConfigRequest) (r : Reg) (b : Byte),
    s.tfd = true → s.input = [] → s.phase = .idle → outsideNext s.events = false →
    (s.mode = .uninitialized → s.todo = .getTemp :: ops ∨ s.todo = .getFaults :: ops → step s = .fault .notReady) ∧
    (s.mode = .ready → s.todo = .init :: ops → step s = .fault .alreadyInitialized) ∧
    (s.mode = .dead → s.todo = .getTemp :: ops ∨ s.todo = .getFaults :: ops ∨ s.todo = .init :: ops ∨
      s.todo = .rd r :: ops ∨ (s.todo = .wr r b :: ops ∧ regWritable r = true) → step s = .fault .instanceDead) ∧
    (s.todo = .construct c :: ops → step s = .fault .alreadyConstructed) ∧
    (s.mode = .uninitialized ∨ s.mode = .ready → s.todo = .discard :: ops →
      step s = .next { s with todo := ops, mode := .dead, handle := false, tfd := false })) ∧
  (∀ (s : State) (op : HostOp) (ops : List HostOp), s.tfd = false → s.mode = .absent → s.todo = op :: ops →
    (∀ c, op ≠ .construct c) → step s = .fault .noInstance) ∧
  (∀ s : State, s.tfd = false → s.mode ≠ .absent → step s = .fault .instanceDead)

/-- `10_state` R31, `30_encoding` R66: a sampled port is the function of the state, where its OK bit is 1 or it has none. A
port whose OK bit is 0 gives a free value (log 5), of which nothing is said. -/
def Obligations.SampleReadsThePort : Prop :=
  ∀ (s : State) (ops : List HostOp), s.tfd = true → s.input = [] → s.phase = .idle → outsideNext s.events = false →
    (s.todo = .sample .t :: ops → portTOk s = true → step s = .next { s with
      todo := ops, returned := s.returned ++ [.sampledT (portT s)], draws := s.draws + 1 }) ∧
    (s.todo = .sample .f :: ops → portFOk s = true → step s = .next { s with
      todo := ops, returned := s.returned ++ [.sampledF (portF s)], draws := s.draws + 1 }) ∧
    (s.todo = .sample .fcnt :: ops → portFOk s = true → step s = .next { s with
      todo := ops, returned := s.returned ++ [.sampledFcnt (portFcnt s)], draws := s.draws + 1 }) ∧
    (s.todo = .sample .tOk :: ops → step s = .next { s with
      todo := ops, returned := s.returned ++ [.sampledTOk (s.v0 && s.v1 && s.v2)] }) ∧
    (s.todo = .sample .fOk :: ops → step s = .next { s with
      todo := ops, returned := s.returned ++ [.sampledFOk s.v3] }) ∧
    (s.todo = .sample .inReady :: ops → step s = .next { s with
      todo := ops, returned := s.returned ++ [.sampledInReady true] })

/-- `00_scope` R5, `70_reset_and_hazards` R189: the consumer may sample between any two steps, whatever the host is in the
middle of and whatever stands at the port behind the sampling. It changes neither the block nor the host, and gets the port's
value where the spec says it. That samplings stand in `State.input` and `State.events` is the model's choice (logs 6 and 15). -/
def Obligations.SampleBetweenAnyTwoSteps : Prop :=
  ∀ (s : State) (p : Port), s.tfd = true →
    (∀ rest, s.input = .sample p :: rest → ∃ v n, step s = .next { s with
        input := rest, returned := s.returned ++ [v], draws := n } ∧ ∀ w, sampledValue p s = some w → v = w) ∧
    (∀ ev, s.input = [] → s.events = .sample p :: ev → ∃ v n, step s = .next { s with
        events := ev, returned := s.returned ++ [v], draws := n } ∧ ∀ w, sampledValue p s = some w → v = w)

/-! ## Invariants every step keeps -/

/-- The host's invariant holds at reset, before construction, and at launch with any configuration (`10_state` R30,
`42_host_sequences` R135). That nothing is done or returned yet there are the model's empty lists (logs 7 and 8); the state
before construction is log 11, and `State.reset` is one instance (log 3). -/
def Obligations.HostInvariantAtReset : Prop :=
  HostInv State.reset ∧ ∀ rx : Cap → Byte, HostInv (State.unbuilt rx) ∧ ∀ cfg : DeviceConfig, HostInv (State.launch rx cfg)

/-- Every step keeps the host's invariant (`42_host_sequences` R131, R135 to R137, `70_reset_and_hazards` R182,
`60_exceptions` R164). -/
def Obligations.HostInvariantKept : Prop :=
  ∀ s t : State, HostInv s → step s = .next t → HostInv t

/-- The queries' invariant holds at reset, before construction and at launch with any configuration: a host that is not Ready has
no query in progress (`42_host_sequences` R133 to R135). That no outside reset is to come there is no rule of the spec, but the
model's empty list of events (logs 1 and 6), and that the host is between two lines is log 7; `State.reset` is one instance
(log 3). -/
def Obligations.QueryInvariantAtReset : Prop :=
  QueryInv State.reset ∧ ∀ rx : Cap → Byte, QueryInv (State.unbuilt rx) ∧ ∀ cfg : DeviceConfig, QueryInv (State.launch rx cfg)

/-- Every step keeps the queries' invariant (`42_host_sequences` R133, R134; `40_capture_records` R84). -/
def Obligations.QueryInvariantKept : Prop :=
  ∀ s t : State, QueryInv s → step s = .next t → QueryInv t

/-- What the queries' invariant is for: the asserts `sample(T_OK) == 1` and `sample(F_OK) == 1` of `42_host_sequences` R133 and
R134 hold, and the query returns the decode of the registers. -/
def Obligations.QueriesSampleValidPorts : Prop :=
  ∀ s : State, QueryInv s → SafeUse s ∧
    (s.tfd = true → s.input = [] → outsideNext s.events = false → s.phase = .tempSample →
      ∃ t, step s = .next t ∧ t.returned = s.returned ++ [.temperature (tdec s.x2 s.x1 s.x0)]) ∧
    (s.tfd = true → s.input = [] → outsideNext s.events = false → s.phase = .faultsSample →
      ∃ t, step s = .next t ∧ t.returned = s.returned ++ [.faults (fdec s.x3)])

/-- `00_scope` R7: the Device Configuration is immutable after construction; that it stands from the construction on is log 11. -/
def Obligations.DeviceConfigurationIsImmutable : Prop :=
  ∀ (s t : State) (c : DeviceConfig), HostInv s → s.cfg = some c → step s = .next t → t.cfg = some c
end

