-- ==== Sys2Proof/Laws/Decode.lean ====
section
/-! SUPPORT. The fields of a record made of a tag and a byte, and of a tag made of its fields; the words the decoder reads. -/

namespace Sys2Proof

@[simp] theorem recTag_mkRecord (t d : Byte) : recTag (mkRecord t d) = t := BitVec.extractLsb'_append_eq_left

@[simp] theorem recData_mkRecord (t d : Byte) : recData (mkRecord t d) = d := BitVec.extractLsb'_append_eq_right

/-- Bit `i` of a record: the data byte below bit 8, the tag above. -/
theorem getLsbD_mkRecord (t d : Byte) (i : Nat) :
    (mkRecord t d).getLsbD i = if i < 8 then d.getLsbD i else t.getLsbD (i - 8) := by
  have h := @BitVec.getLsbD_append 8 8 i t d
  by_cases hi : i < 8 <;> simp_all [mkRecord]

/-- A record is the record of its tag and its data byte. -/
@[simp] theorem mkRecord_recTag_recData (r : Record) : mkRecord (recTag r) (recData r) = r := by
  apply BitVec.eq_of_getLsbD_eq
  intro i hi
  rw [getLsbD_mkRecord]
  by_cases h : i < 8
  · simp [recData, h]
  · have h1 : i - 8 < 8 := by omega
    have h2 : 8 + (i - 8) = i := by omega
    simp [recTag, h, h1, h2]

theorem mkRecord_inj {t d t' d' : Byte} : mkRecord t d = mkRecord t' d' ↔ t = t' ∧ d = d' := by
  constructor
  · intro h
    exact ⟨by simpa using congrArg recTag h, by simpa using congrArg recData h⟩
  · rintro ⟨rfl, rfl⟩
    rfl

/-- The record word as the spec writes it: the tag's word with the data byte below it. -/
theorem mkRecord_eq_or (t d : Byte) : mkRecord t d = t.zeroExtend 16 <<< 8 ||| d.zeroExtend 16 := by
  apply BitVec.eq_of_getLsbD_eq
  intro i hi
  rw [getLsbD_mkRecord]
  by_cases h : i < 8
  · simp [h, hi]
  · have h1 : i - 8 < 8 := by omega
    have h2 := BitVec.getLsbD_of_ge d i (by omega)
    simp [h, h2, hi]

@[simp] theorem tagW_mkTag (w : BitVec 1) (z : BitVec 3) (a : BitVec 4) : tagW (mkTag w z a) = w := by
  revert w z a
  decide

@[simp] theorem tagZ_mkTag (w : BitVec 1) (z : BitVec 3) (a : BitVec 4) : tagZ (mkTag w z a) = z := by
  revert w z a
  decide

@[simp] theorem tagA_mkTag (w : BitVec 1) (z : BitVec 3) (a : BitVec 4) : tagA (mkTag w z a) = a := by
  revert w z a
  decide

/-- A tag is made of its three fields. -/
theorem mkTag_fields (t : Byte) : mkTag (tagW t) (tagZ t) (tagA t) = t := by
  revert t
  decide

/-- The decoder reads a record through its tag and its data byte alone. -/
@[simp] theorem decode_mkRecord (t d : Byte) : decode (mkRecord t d) = decodeTagged t d := by
  simp [decode]

end Sys2Proof
end

