-- ==== Sys2Proof/Laws/State.lean ====
section
/-! SUPPORT. What each shared operation leaves in each field of State, once, so that no proof unfolds a record update. -/

namespace Sys2Proof.Machine

/-! ## writeX -/

@[simp] theorem writeX_v0 (c : Cap) (b : Byte) (s : State) : (writeX c b s).v0 = s.v0 := by cases c <;> rfl
@[simp] theorem writeX_v1 (c : Cap) (b : Byte) (s : State) : (writeX c b s).v1 = s.v1 := by cases c <;> rfl
@[simp] theorem writeX_v2 (c : Cap) (b : Byte) (s : State) : (writeX c b s).v2 = s.v2 := by cases c <;> rfl
@[simp] theorem writeX_v3 (c : Cap) (b : Byte) (s : State) : (writeX c b s).v3 = s.v3 := by cases c <;> rfl
@[simp] theorem writeX_input (c : Cap) (b : Byte) (s : State) : (writeX c b s).input = s.input := by cases c <;> rfl
@[simp] theorem writeX_mode (c : Cap) (b : Byte) (s : State) : (writeX c b s).mode = s.mode := by cases c <;> rfl
@[simp] theorem writeX_cfg (c : Cap) (b : Byte) (s : State) : (writeX c b s).cfg = s.cfg := by cases c <;> rfl
@[simp] theorem writeX_handle (c : Cap) (b : Byte) (s : State) : (writeX c b s).handle = s.handle := by cases c <;> rfl
@[simp] theorem writeX_tfd (c : Cap) (b : Byte) (s : State) : (writeX c b s).tfd = s.tfd := by cases c <;> rfl
@[simp] theorem writeX_phase (c : Cap) (b : Byte) (s : State) : (writeX c b s).phase = s.phase := by cases c <;> rfl
@[simp] theorem writeX_todo (c : Cap) (b : Byte) (s : State) : (writeX c b s).todo = s.todo := by cases c <;> rfl
@[simp] theorem writeX_events (c : Cap) (b : Byte) (s : State) : (writeX c b s).events = s.events := by cases c <;> rfl
@[simp] theorem writeX_bus (c : Cap) (b : Byte) (s : State) : (writeX c b s).bus = s.bus := by cases c <;> rfl
@[simp] theorem writeX_returned (c : Cap) (b : Byte) (s : State) : (writeX c b s).returned = s.returned := by cases c <;> rfl
@[simp] theorem writeX_draws (c : Cap) (b : Byte) (s : State) : (writeX c b s).draws = s.draws := by cases c <;> rfl
@[simp] theorem writeX_hsb_x0 (b : Byte) (s : State) : (writeX .hsb b s).x0 = b := rfl
@[simp] theorem writeX_hsb_x1 (b : Byte) (s : State) : (writeX .hsb b s).x1 = s.x1 := rfl
@[simp] theorem writeX_hsb_x2 (b : Byte) (s : State) : (writeX .hsb b s).x2 = s.x2 := rfl
@[simp] theorem writeX_hsb_x3 (b : Byte) (s : State) : (writeX .hsb b s).x3 = s.x3 := rfl
@[simp] theorem writeX_msb_x0 (b : Byte) (s : State) : (writeX .msb b s).x0 = s.x0 := rfl
@[simp] theorem writeX_msb_x1 (b : Byte) (s : State) : (writeX .msb b s).x1 = b := rfl
@[simp] theorem writeX_msb_x2 (b : Byte) (s : State) : (writeX .msb b s).x2 = s.x2 := rfl
@[simp] theorem writeX_msb_x3 (b : Byte) (s : State) : (writeX .msb b s).x3 = s.x3 := rfl
@[simp] theorem writeX_lsb_x0 (b : Byte) (s : State) : (writeX .lsb b s).x0 = s.x0 := rfl
@[simp] theorem writeX_lsb_x1 (b : Byte) (s : State) : (writeX .lsb b s).x1 = s.x1 := rfl
@[simp] theorem writeX_lsb_x2 (b : Byte) (s : State) : (writeX .lsb b s).x2 = b := rfl
@[simp] theorem writeX_lsb_x3 (b : Byte) (s : State) : (writeX .lsb b s).x3 = s.x3 := rfl
@[simp] theorem writeX_sr_x0 (b : Byte) (s : State) : (writeX .sr b s).x0 = s.x0 := rfl
@[simp] theorem writeX_sr_x1 (b : Byte) (s : State) : (writeX .sr b s).x1 = s.x1 := rfl
@[simp] theorem writeX_sr_x2 (b : Byte) (s : State) : (writeX .sr b s).x2 = s.x2 := rfl
@[simp] theorem writeX_sr_x3 (b : Byte) (s : State) : (writeX .sr b s).x3 = b := rfl

/-! ## markCaptured and clearFlags -/

@[simp] theorem markCaptured_x0 (c : Cap) (s : State) : (markCaptured c s).x0 = s.x0 := by cases c <;> rfl
@[simp] theorem markCaptured_x1 (c : Cap) (s : State) : (markCaptured c s).x1 = s.x1 := by cases c <;> rfl
@[simp] theorem markCaptured_x2 (c : Cap) (s : State) : (markCaptured c s).x2 = s.x2 := by cases c <;> rfl
@[simp] theorem markCaptured_x3 (c : Cap) (s : State) : (markCaptured c s).x3 = s.x3 := by cases c <;> rfl
@[simp] theorem markCaptured_input (c : Cap) (s : State) : (markCaptured c s).input = s.input := by cases c <;> rfl
@[simp] theorem markCaptured_mode (c : Cap) (s : State) : (markCaptured c s).mode = s.mode := by cases c <;> rfl
@[simp] theorem markCaptured_cfg (c : Cap) (s : State) : (markCaptured c s).cfg = s.cfg := by cases c <;> rfl
@[simp] theorem markCaptured_handle (c : Cap) (s : State) : (markCaptured c s).handle = s.handle := by cases c <;> rfl
@[simp] theorem markCaptured_tfd (c : Cap) (s : State) : (markCaptured c s).tfd = s.tfd := by cases c <;> rfl
@[simp] theorem markCaptured_phase (c : Cap) (s : State) : (markCaptured c s).phase = s.phase := by cases c <;> rfl
@[simp] theorem markCaptured_todo (c : Cap) (s : State) : (markCaptured c s).todo = s.todo := by cases c <;> rfl
@[simp] theorem markCaptured_events (c : Cap) (s : State) : (markCaptured c s).events = s.events := by cases c <;> rfl
@[simp] theorem markCaptured_bus (c : Cap) (s : State) : (markCaptured c s).bus = s.bus := by cases c <;> rfl
@[simp] theorem markCaptured_returned (c : Cap) (s : State) : (markCaptured c s).returned = s.returned := by cases c <;> rfl
@[simp] theorem markCaptured_draws (c : Cap) (s : State) : (markCaptured c s).draws = s.draws := by cases c <;> rfl
@[simp] theorem markCaptured_hsb_v0 (s : State) : (markCaptured .hsb s).v0 = true := rfl
@[simp] theorem markCaptured_hsb_v1 (s : State) : (markCaptured .hsb s).v1 = s.v1 := rfl
@[simp] theorem markCaptured_hsb_v2 (s : State) : (markCaptured .hsb s).v2 = s.v2 := rfl
@[simp] theorem markCaptured_hsb_v3 (s : State) : (markCaptured .hsb s).v3 = s.v3 := rfl
@[simp] theorem markCaptured_msb_v0 (s : State) : (markCaptured .msb s).v0 = false := rfl
@[simp] theorem markCaptured_msb_v1 (s : State) : (markCaptured .msb s).v1 = true := rfl
@[simp] theorem markCaptured_msb_v2 (s : State) : (markCaptured .msb s).v2 = s.v2 := rfl
@[simp] theorem markCaptured_msb_v3 (s : State) : (markCaptured .msb s).v3 = s.v3 := rfl
@[simp] theorem markCaptured_lsb_v0 (s : State) : (markCaptured .lsb s).v0 = false := rfl
@[simp] theorem markCaptured_lsb_v1 (s : State) : (markCaptured .lsb s).v1 = false := rfl
@[simp] theorem markCaptured_lsb_v2 (s : State) : (markCaptured .lsb s).v2 = true := rfl
@[simp] theorem markCaptured_lsb_v3 (s : State) : (markCaptured .lsb s).v3 = s.v3 := rfl
@[simp] theorem markCaptured_sr_v0 (s : State) : (markCaptured .sr s).v0 = s.v0 := rfl
@[simp] theorem markCaptured_sr_v1 (s : State) : (markCaptured .sr s).v1 = s.v1 := rfl
@[simp] theorem markCaptured_sr_v2 (s : State) : (markCaptured .sr s).v2 = s.v2 := rfl
@[simp] theorem markCaptured_sr_v3 (s : State) : (markCaptured .sr s).v3 = true := rfl
@[simp] theorem clearFlags_x0 (s : State) : (clearFlags s).x0 = s.x0 := rfl
@[simp] theorem clearFlags_x1 (s : State) : (clearFlags s).x1 = s.x1 := rfl
@[simp] theorem clearFlags_x2 (s : State) : (clearFlags s).x2 = s.x2 := rfl
@[simp] theorem clearFlags_x3 (s : State) : (clearFlags s).x3 = s.x3 := rfl
@[simp] theorem clearFlags_v0 (s : State) : (clearFlags s).v0 = false := rfl
@[simp] theorem clearFlags_v1 (s : State) : (clearFlags s).v1 = false := rfl
@[simp] theorem clearFlags_v2 (s : State) : (clearFlags s).v2 = false := rfl
@[simp] theorem clearFlags_v3 (s : State) : (clearFlags s).v3 = false := rfl
@[simp] theorem clearFlags_input (s : State) : (clearFlags s).input = s.input := rfl
@[simp] theorem clearFlags_mode (s : State) : (clearFlags s).mode = s.mode := rfl
@[simp] theorem clearFlags_cfg (s : State) : (clearFlags s).cfg = s.cfg := rfl
@[simp] theorem clearFlags_handle (s : State) : (clearFlags s).handle = s.handle := rfl
@[simp] theorem clearFlags_tfd (s : State) : (clearFlags s).tfd = s.tfd := rfl
@[simp] theorem clearFlags_phase (s : State) : (clearFlags s).phase = s.phase := rfl
@[simp] theorem clearFlags_todo (s : State) : (clearFlags s).todo = s.todo := rfl
@[simp] theorem clearFlags_events (s : State) : (clearFlags s).events = s.events := rfl
@[simp] theorem clearFlags_bus (s : State) : (clearFlags s).bus = s.bus := rfl
@[simp] theorem clearFlags_returned (s : State) : (clearFlags s).returned = s.returned := rfl
@[simp] theorem clearFlags_draws (s : State) : (clearFlags s).draws = s.draws := rfl

/-! ## capture -/

@[simp] theorem capture_input (c : Cap) (d : Byte) (s : State) : (capture c d s).input = s.input := by cases c <;> rfl
@[simp] theorem capture_mode (c : Cap) (d : Byte) (s : State) : (capture c d s).mode = s.mode := by cases c <;> rfl
@[simp] theorem capture_cfg (c : Cap) (d : Byte) (s : State) : (capture c d s).cfg = s.cfg := by cases c <;> rfl
@[simp] theorem capture_handle (c : Cap) (d : Byte) (s : State) : (capture c d s).handle = s.handle := by cases c <;> rfl
@[simp] theorem capture_tfd (c : Cap) (d : Byte) (s : State) : (capture c d s).tfd = s.tfd := by cases c <;> rfl
@[simp] theorem capture_phase (c : Cap) (d : Byte) (s : State) : (capture c d s).phase = s.phase := by cases c <;> rfl
@[simp] theorem capture_todo (c : Cap) (d : Byte) (s : State) : (capture c d s).todo = s.todo := by cases c <;> rfl
@[simp] theorem capture_events (c : Cap) (d : Byte) (s : State) : (capture c d s).events = s.events := by cases c <;> rfl
@[simp] theorem capture_bus (c : Cap) (d : Byte) (s : State) : (capture c d s).bus = s.bus := by cases c <;> rfl
@[simp] theorem capture_returned (c : Cap) (d : Byte) (s : State) : (capture c d s).returned = s.returned := by cases c <;> rfl
@[simp] theorem capture_draws (c : Cap) (d : Byte) (s : State) : (capture c d s).draws = s.draws := by cases c <;> rfl
@[simp] theorem capture_hsb_x0 (d : Byte) (s : State) : (capture .hsb d s).x0 = d := rfl
@[simp] theorem capture_hsb_x1 (d : Byte) (s : State) : (capture .hsb d s).x1 = s.x1 := rfl
@[simp] theorem capture_hsb_x2 (d : Byte) (s : State) : (capture .hsb d s).x2 = s.x2 := rfl
@[simp] theorem capture_hsb_x3 (d : Byte) (s : State) : (capture .hsb d s).x3 = s.x3 := rfl
@[simp] theorem capture_hsb_v0 (d : Byte) (s : State) : (capture .hsb d s).v0 = true := rfl
@[simp] theorem capture_hsb_v1 (d : Byte) (s : State) : (capture .hsb d s).v1 = s.v1 := rfl
@[simp] theorem capture_hsb_v2 (d : Byte) (s : State) : (capture .hsb d s).v2 = s.v2 := rfl
@[simp] theorem capture_hsb_v3 (d : Byte) (s : State) : (capture .hsb d s).v3 = s.v3 := rfl
@[simp] theorem capture_msb_x0 (d : Byte) (s : State) : (capture .msb d s).x0 = s.x0 := rfl
@[simp] theorem capture_msb_x1 (d : Byte) (s : State) : (capture .msb d s).x1 = d := rfl
@[simp] theorem capture_msb_x2 (d : Byte) (s : State) : (capture .msb d s).x2 = s.x2 := rfl
@[simp] theorem capture_msb_x3 (d : Byte) (s : State) : (capture .msb d s).x3 = s.x3 := rfl
@[simp] theorem capture_msb_v0 (d : Byte) (s : State) : (capture .msb d s).v0 = false := rfl
@[simp] theorem capture_msb_v1 (d : Byte) (s : State) : (capture .msb d s).v1 = true := rfl
@[simp] theorem capture_msb_v2 (d : Byte) (s : State) : (capture .msb d s).v2 = s.v2 := rfl
@[simp] theorem capture_msb_v3 (d : Byte) (s : State) : (capture .msb d s).v3 = s.v3 := rfl
@[simp] theorem capture_lsb_x0 (d : Byte) (s : State) : (capture .lsb d s).x0 = s.x0 := rfl
@[simp] theorem capture_lsb_x1 (d : Byte) (s : State) : (capture .lsb d s).x1 = s.x1 := rfl
@[simp] theorem capture_lsb_x2 (d : Byte) (s : State) : (capture .lsb d s).x2 = d := rfl
@[simp] theorem capture_lsb_x3 (d : Byte) (s : State) : (capture .lsb d s).x3 = s.x3 := rfl
@[simp] theorem capture_lsb_v0 (d : Byte) (s : State) : (capture .lsb d s).v0 = false := rfl
@[simp] theorem capture_lsb_v1 (d : Byte) (s : State) : (capture .lsb d s).v1 = false := rfl
@[simp] theorem capture_lsb_v2 (d : Byte) (s : State) : (capture .lsb d s).v2 = true := rfl
@[simp] theorem capture_lsb_v3 (d : Byte) (s : State) : (capture .lsb d s).v3 = s.v3 := rfl
@[simp] theorem capture_sr_x0 (d : Byte) (s : State) : (capture .sr d s).x0 = s.x0 := rfl
@[simp] theorem capture_sr_x1 (d : Byte) (s : State) : (capture .sr d s).x1 = s.x1 := rfl
@[simp] theorem capture_sr_x2 (d : Byte) (s : State) : (capture .sr d s).x2 = s.x2 := rfl
@[simp] theorem capture_sr_x3 (d : Byte) (s : State) : (capture .sr d s).x3 = d := rfl
@[simp] theorem capture_sr_v0 (d : Byte) (s : State) : (capture .sr d s).v0 = s.v0 := rfl
@[simp] theorem capture_sr_v1 (d : Byte) (s : State) : (capture .sr d s).v1 = s.v1 := rfl
@[simp] theorem capture_sr_v2 (d : Byte) (s : State) : (capture .sr d s).v2 = s.v2 := rfl
@[simp] theorem capture_sr_v3 (d : Byte) (s : State) : (capture .sr d s).v3 = true := rfl

/-! ## The reset event -/

@[simp] theorem drawX_x0 (s : State) : (drawX s).x0 = Config.resetX s.draws .hsb := rfl
@[simp] theorem drawX_x1 (s : State) : (drawX s).x1 = Config.resetX s.draws .msb := rfl
@[simp] theorem drawX_x2 (s : State) : (drawX s).x2 = Config.resetX s.draws .lsb := rfl
@[simp] theorem drawX_x3 (s : State) : (drawX s).x3 = Config.resetX s.draws .sr := rfl
@[simp] theorem drawX_v0 (s : State) : (drawX s).v0 = s.v0 := rfl
@[simp] theorem drawX_v1 (s : State) : (drawX s).v1 = s.v1 := rfl
@[simp] theorem drawX_v2 (s : State) : (drawX s).v2 = s.v2 := rfl
@[simp] theorem drawX_v3 (s : State) : (drawX s).v3 = s.v3 := rfl
@[simp] theorem drawX_input (s : State) : (drawX s).input = s.input := rfl
@[simp] theorem drawX_mode (s : State) : (drawX s).mode = s.mode := rfl
@[simp] theorem drawX_cfg (s : State) : (drawX s).cfg = s.cfg := rfl
@[simp] theorem drawX_handle (s : State) : (drawX s).handle = s.handle := rfl
@[simp] theorem drawX_tfd (s : State) : (drawX s).tfd = s.tfd := rfl
@[simp] theorem drawX_phase (s : State) : (drawX s).phase = s.phase := rfl
@[simp] theorem drawX_todo (s : State) : (drawX s).todo = s.todo := rfl
@[simp] theorem drawX_events (s : State) : (drawX s).events = s.events := rfl
@[simp] theorem drawX_bus (s : State) : (drawX s).bus = s.bus := rfl
@[simp] theorem drawX_returned (s : State) : (drawX s).returned = s.returned := rfl
@[simp] theorem drawX_draws (s : State) : (drawX s).draws = s.draws + 1 := rfl
@[simp] theorem blockReset_x0 (s : State) : (blockReset s).x0 = Config.resetX s.draws .hsb := rfl
@[simp] theorem blockReset_x1 (s : State) : (blockReset s).x1 = Config.resetX s.draws .msb := rfl
@[simp] theorem blockReset_x2 (s : State) : (blockReset s).x2 = Config.resetX s.draws .lsb := rfl
@[simp] theorem blockReset_x3 (s : State) : (blockReset s).x3 = Config.resetX s.draws .sr := rfl
@[simp] theorem blockReset_v0 (s : State) : (blockReset s).v0 = false := rfl
@[simp] theorem blockReset_v1 (s : State) : (blockReset s).v1 = false := rfl
@[simp] theorem blockReset_v2 (s : State) : (blockReset s).v2 = false := rfl
@[simp] theorem blockReset_v3 (s : State) : (blockReset s).v3 = false := rfl
@[simp] theorem blockReset_input (s : State) : (blockReset s).input = s.input := rfl
@[simp] theorem blockReset_mode (s : State) : (blockReset s).mode = s.mode := rfl
@[simp] theorem blockReset_cfg (s : State) : (blockReset s).cfg = s.cfg := rfl
@[simp] theorem blockReset_handle (s : State) : (blockReset s).handle = s.handle := rfl
@[simp] theorem blockReset_tfd (s : State) : (blockReset s).tfd = s.tfd := rfl
@[simp] theorem blockReset_phase (s : State) : (blockReset s).phase = s.phase := rfl
@[simp] theorem blockReset_todo (s : State) : (blockReset s).todo = s.todo := rfl
@[simp] theorem blockReset_events (s : State) : (blockReset s).events = s.events := rfl
@[simp] theorem blockReset_bus (s : State) : (blockReset s).bus = s.bus := rfl
@[simp] theorem blockReset_returned (s : State) : (blockReset s).returned = s.returned := rfl
@[simp] theorem blockReset_draws (s : State) : (blockReset s).draws = s.draws + 1 := rfl

/-! ## The input port and the returned values -/

@[simp] theorem takeInput_x0 (rest : List PortEvent) (s : State) : (takeInput rest s).x0 = s.x0 := rfl
@[simp] theorem takeInput_x1 (rest : List PortEvent) (s : State) : (takeInput rest s).x1 = s.x1 := rfl
@[simp] theorem takeInput_x2 (rest : List PortEvent) (s : State) : (takeInput rest s).x2 = s.x2 := rfl
@[simp] theorem takeInput_x3 (rest : List PortEvent) (s : State) : (takeInput rest s).x3 = s.x3 := rfl
@[simp] theorem takeInput_v0 (rest : List PortEvent) (s : State) : (takeInput rest s).v0 = s.v0 := rfl
@[simp] theorem takeInput_v1 (rest : List PortEvent) (s : State) : (takeInput rest s).v1 = s.v1 := rfl
@[simp] theorem takeInput_v2 (rest : List PortEvent) (s : State) : (takeInput rest s).v2 = s.v2 := rfl
@[simp] theorem takeInput_v3 (rest : List PortEvent) (s : State) : (takeInput rest s).v3 = s.v3 := rfl
@[simp] theorem takeInput_input (rest : List PortEvent) (s : State) : (takeInput rest s).input = rest := rfl
@[simp] theorem takeInput_mode (rest : List PortEvent) (s : State) : (takeInput rest s).mode = s.mode := rfl
@[simp] theorem takeInput_cfg (rest : List PortEvent) (s : State) : (takeInput rest s).cfg = s.cfg := rfl
@[simp] theorem takeInput_handle (rest : List PortEvent) (s : State) : (takeInput rest s).handle = s.handle := rfl
@[simp] theorem takeInput_tfd (rest : List PortEvent) (s : State) : (takeInput rest s).tfd = s.tfd := rfl
@[simp] theorem takeInput_phase (rest : List PortEvent) (s : State) : (takeInput rest s).phase = s.phase := rfl
@[simp] theorem takeInput_todo (rest : List PortEvent) (s : State) : (takeInput rest s).todo = s.todo := rfl
@[simp] theorem takeInput_events (rest : List PortEvent) (s : State) : (takeInput rest s).events = s.events := rfl
@[simp] theorem takeInput_bus (rest : List PortEvent) (s : State) : (takeInput rest s).bus = s.bus := rfl
@[simp] theorem takeInput_returned (rest : List PortEvent) (s : State) : (takeInput rest s).returned = s.returned := rfl
@[simp] theorem takeInput_draws (rest : List PortEvent) (s : State) : (takeInput rest s).draws = s.draws := rfl
@[simp] theorem deliver_x0 (tag d : Byte) (s : State) : (deliver tag d s).x0 = s.x0 := rfl
@[simp] theorem deliver_x1 (tag d : Byte) (s : State) : (deliver tag d s).x1 = s.x1 := rfl
@[simp] theorem deliver_x2 (tag d : Byte) (s : State) : (deliver tag d s).x2 = s.x2 := rfl
@[simp] theorem deliver_x3 (tag d : Byte) (s : State) : (deliver tag d s).x3 = s.x3 := rfl
@[simp] theorem deliver_v0 (tag d : Byte) (s : State) : (deliver tag d s).v0 = s.v0 := rfl
@[simp] theorem deliver_v1 (tag d : Byte) (s : State) : (deliver tag d s).v1 = s.v1 := rfl
@[simp] theorem deliver_v2 (tag d : Byte) (s : State) : (deliver tag d s).v2 = s.v2 := rfl
@[simp] theorem deliver_v3 (tag d : Byte) (s : State) : (deliver tag d s).v3 = s.v3 := rfl
@[simp] theorem deliver_input (tag d : Byte) (s : State) : (deliver tag d s).input = s.input ++ [.record (mkRecord tag d)] := rfl
@[simp] theorem deliver_mode (tag d : Byte) (s : State) : (deliver tag d s).mode = s.mode := rfl
@[simp] theorem deliver_cfg (tag d : Byte) (s : State) : (deliver tag d s).cfg = s.cfg := rfl
@[simp] theorem deliver_handle (tag d : Byte) (s : State) : (deliver tag d s).handle = s.handle := rfl
@[simp] theorem deliver_tfd (tag d : Byte) (s : State) : (deliver tag d s).tfd = s.tfd := rfl
@[simp] theorem deliver_phase (tag d : Byte) (s : State) : (deliver tag d s).phase = s.phase := rfl
@[simp] theorem deliver_todo (tag d : Byte) (s : State) : (deliver tag d s).todo = s.todo := rfl
@[simp] theorem deliver_events (tag d : Byte) (s : State) : (deliver tag d s).events = s.events := rfl
@[simp] theorem deliver_bus (tag d : Byte) (s : State) : (deliver tag d s).bus = s.bus := rfl
@[simp] theorem deliver_returned (tag d : Byte) (s : State) : (deliver tag d s).returned = s.returned := rfl
@[simp] theorem deliver_draws (tag d : Byte) (s : State) : (deliver tag d s).draws = s.draws := rfl
@[simp] theorem deliverReset_x0 (s : State) : (deliverReset s).x0 = s.x0 := rfl
@[simp] theorem deliverReset_x1 (s : State) : (deliverReset s).x1 = s.x1 := rfl
@[simp] theorem deliverReset_x2 (s : State) : (deliverReset s).x2 = s.x2 := rfl
@[simp] theorem deliverReset_x3 (s : State) : (deliverReset s).x3 = s.x3 := rfl
@[simp] theorem deliverReset_v0 (s : State) : (deliverReset s).v0 = s.v0 := rfl
@[simp] theorem deliverReset_v1 (s : State) : (deliverReset s).v1 = s.v1 := rfl
@[simp] theorem deliverReset_v2 (s : State) : (deliverReset s).v2 = s.v2 := rfl
@[simp] theorem deliverReset_v3 (s : State) : (deliverReset s).v3 = s.v3 := rfl
@[simp] theorem deliverReset_input (s : State) : (deliverReset s).input = s.input ++ [.reset] := rfl
@[simp] theorem deliverReset_mode (s : State) : (deliverReset s).mode = s.mode := rfl
@[simp] theorem deliverReset_cfg (s : State) : (deliverReset s).cfg = s.cfg := rfl
@[simp] theorem deliverReset_handle (s : State) : (deliverReset s).handle = s.handle := rfl
@[simp] theorem deliverReset_tfd (s : State) : (deliverReset s).tfd = s.tfd := rfl
@[simp] theorem deliverReset_phase (s : State) : (deliverReset s).phase = s.phase := rfl
@[simp] theorem deliverReset_todo (s : State) : (deliverReset s).todo = s.todo := rfl
@[simp] theorem deliverReset_events (s : State) : (deliverReset s).events = s.events := rfl
@[simp] theorem deliverReset_bus (s : State) : (deliverReset s).bus = s.bus := rfl
@[simp] theorem deliverReset_returned (s : State) : (deliverReset s).returned = s.returned := rfl
@[simp] theorem deliverReset_draws (s : State) : (deliverReset s).draws = s.draws := rfl
@[simp] theorem createInstance_x0 (cfg : DeviceConfig) (s : State) : (createInstance cfg s).x0 = s.x0 := rfl
@[simp] theorem createInstance_x1 (cfg : DeviceConfig) (s : State) : (createInstance cfg s).x1 = s.x1 := rfl
@[simp] theorem createInstance_x2 (cfg : DeviceConfig) (s : State) : (createInstance cfg s).x2 = s.x2 := rfl
@[simp] theorem createInstance_x3 (cfg : DeviceConfig) (s : State) : (createInstance cfg s).x3 = s.x3 := rfl
@[simp] theorem createInstance_v0 (cfg : DeviceConfig) (s : State) : (createInstance cfg s).v0 = false := rfl
@[simp] theorem createInstance_v1 (cfg : DeviceConfig) (s : State) : (createInstance cfg s).v1 = false := rfl
@[simp] theorem createInstance_v2 (cfg : DeviceConfig) (s : State) : (createInstance cfg s).v2 = false := rfl
@[simp] theorem createInstance_v3 (cfg : DeviceConfig) (s : State) : (createInstance cfg s).v3 = false := rfl
@[simp] theorem createInstance_input (cfg : DeviceConfig) (s : State) : (createInstance cfg s).input = s.input := rfl
@[simp] theorem createInstance_mode (cfg : DeviceConfig) (s : State) : (createInstance cfg s).mode = .uninitialized := rfl
@[simp] theorem createInstance_cfg (cfg : DeviceConfig) (s : State) : (createInstance cfg s).cfg = some cfg := rfl
@[simp] theorem createInstance_handle (cfg : DeviceConfig) (s : State) : (createInstance cfg s).handle = true := rfl
@[simp] theorem createInstance_tfd (cfg : DeviceConfig) (s : State) : (createInstance cfg s).tfd = true := rfl
@[simp] theorem createInstance_phase (cfg : DeviceConfig) (s : State) : (createInstance cfg s).phase = .idle := rfl
@[simp] theorem createInstance_todo (cfg : DeviceConfig) (s : State) : (createInstance cfg s).todo = s.todo := rfl
@[simp] theorem createInstance_events (cfg : DeviceConfig) (s : State) : (createInstance cfg s).events = s.events := rfl
@[simp] theorem createInstance_bus (cfg : DeviceConfig) (s : State) : (createInstance cfg s).bus = s.bus := rfl
@[simp] theorem createInstance_returned (cfg : DeviceConfig) (s : State) : (createInstance cfg s).returned = s.returned := rfl
@[simp] theorem createInstance_draws (cfg : DeviceConfig) (s : State) : (createInstance cfg s).draws = s.draws := rfl
@[simp] theorem endInstance_x0 (s : State) : (endInstance s).x0 = s.x0 := rfl
@[simp] theorem endInstance_x1 (s : State) : (endInstance s).x1 = s.x1 := rfl
@[simp] theorem endInstance_x2 (s : State) : (endInstance s).x2 = s.x2 := rfl
@[simp] theorem endInstance_x3 (s : State) : (endInstance s).x3 = s.x3 := rfl
@[simp] theorem endInstance_v0 (s : State) : (endInstance s).v0 = s.v0 := rfl
@[simp] theorem endInstance_v1 (s : State) : (endInstance s).v1 = s.v1 := rfl
@[simp] theorem endInstance_v2 (s : State) : (endInstance s).v2 = s.v2 := rfl
@[simp] theorem endInstance_v3 (s : State) : (endInstance s).v3 = s.v3 := rfl
@[simp] theorem endInstance_input (s : State) : (endInstance s).input = s.input := rfl
@[simp] theorem endInstance_mode (s : State) : (endInstance s).mode = .dead := rfl
@[simp] theorem endInstance_cfg (s : State) : (endInstance s).cfg = s.cfg := rfl
@[simp] theorem endInstance_handle (s : State) : (endInstance s).handle = false := rfl
@[simp] theorem endInstance_tfd (s : State) : (endInstance s).tfd = false := rfl
@[simp] theorem endInstance_phase (s : State) : (endInstance s).phase = .idle := rfl
@[simp] theorem endInstance_todo (s : State) : (endInstance s).todo = s.todo := rfl
@[simp] theorem endInstance_events (s : State) : (endInstance s).events = s.events := rfl
@[simp] theorem endInstance_bus (s : State) : (endInstance s).bus = s.bus := rfl
@[simp] theorem endInstance_returned (s : State) : (endInstance s).returned = s.returned := rfl
@[simp] theorem endInstance_draws (s : State) : (endInstance s).draws = s.draws := rfl
@[simp] theorem giveBack_x0 (r : Returned) (s : State) : (giveBack r s).x0 = s.x0 := rfl
@[simp] theorem giveBack_x1 (r : Returned) (s : State) : (giveBack r s).x1 = s.x1 := rfl
@[simp] theorem giveBack_x2 (r : Returned) (s : State) : (giveBack r s).x2 = s.x2 := rfl
@[simp] theorem giveBack_x3 (r : Returned) (s : State) : (giveBack r s).x3 = s.x3 := rfl
@[simp] theorem giveBack_v0 (r : Returned) (s : State) : (giveBack r s).v0 = s.v0 := rfl
@[simp] theorem giveBack_v1 (r : Returned) (s : State) : (giveBack r s).v1 = s.v1 := rfl
@[simp] theorem giveBack_v2 (r : Returned) (s : State) : (giveBack r s).v2 = s.v2 := rfl
@[simp] theorem giveBack_v3 (r : Returned) (s : State) : (giveBack r s).v3 = s.v3 := rfl
@[simp] theorem giveBack_input (r : Returned) (s : State) : (giveBack r s).input = s.input := rfl
@[simp] theorem giveBack_mode (r : Returned) (s : State) : (giveBack r s).mode = s.mode := rfl
@[simp] theorem giveBack_cfg (r : Returned) (s : State) : (giveBack r s).cfg = s.cfg := rfl
@[simp] theorem giveBack_handle (r : Returned) (s : State) : (giveBack r s).handle = s.handle := rfl
@[simp] theorem giveBack_tfd (r : Returned) (s : State) : (giveBack r s).tfd = s.tfd := rfl
@[simp] theorem giveBack_phase (r : Returned) (s : State) : (giveBack r s).phase = s.phase := rfl
@[simp] theorem giveBack_todo (r : Returned) (s : State) : (giveBack r s).todo = s.todo := rfl
@[simp] theorem giveBack_events (r : Returned) (s : State) : (giveBack r s).events = s.events := rfl
@[simp] theorem giveBack_bus (r : Returned) (s : State) : (giveBack r s).bus = s.bus := rfl
@[simp] theorem giveBack_returned (r : Returned) (s : State) : (giveBack r s).returned = s.returned ++ [r] := rfl
@[simp] theorem giveBack_draws (r : Returned) (s : State) : (giveBack r s).draws = s.draws := rfl
@[simp] theorem countDraw_x0 (s : State) : (countDraw s).x0 = s.x0 := rfl
@[simp] theorem countDraw_x1 (s : State) : (countDraw s).x1 = s.x1 := rfl
@[simp] theorem countDraw_x2 (s : State) : (countDraw s).x2 = s.x2 := rfl
@[simp] theorem countDraw_x3 (s : State) : (countDraw s).x3 = s.x3 := rfl
@[simp] theorem countDraw_v0 (s : State) : (countDraw s).v0 = s.v0 := rfl
@[simp] theorem countDraw_v1 (s : State) : (countDraw s).v1 = s.v1 := rfl
@[simp] theorem countDraw_v2 (s : State) : (countDraw s).v2 = s.v2 := rfl
@[simp] theorem countDraw_v3 (s : State) : (countDraw s).v3 = s.v3 := rfl
@[simp] theorem countDraw_input (s : State) : (countDraw s).input = s.input := rfl
@[simp] theorem countDraw_mode (s : State) : (countDraw s).mode = s.mode := rfl
@[simp] theorem countDraw_cfg (s : State) : (countDraw s).cfg = s.cfg := rfl
@[simp] theorem countDraw_handle (s : State) : (countDraw s).handle = s.handle := rfl
@[simp] theorem countDraw_tfd (s : State) : (countDraw s).tfd = s.tfd := rfl
@[simp] theorem countDraw_phase (s : State) : (countDraw s).phase = s.phase := rfl
@[simp] theorem countDraw_todo (s : State) : (countDraw s).todo = s.todo := rfl
@[simp] theorem countDraw_events (s : State) : (countDraw s).events = s.events := rfl
@[simp] theorem countDraw_bus (s : State) : (countDraw s).bus = s.bus := rfl
@[simp] theorem countDraw_returned (s : State) : (countDraw s).returned = s.returned := rfl
@[simp] theorem countDraw_draws (s : State) : (countDraw s).draws = s.draws + 1 := rfl

@[simp] theorem pass_eq (d : Byte) (s : State) : pass d s = s := rfl

/-! ## Reads of registers and flags -/

theorem readX_writeX_same (c : Cap) (b : Byte) (s : State) : readX c (writeX c b s) = b := by cases c <;> rfl

theorem readX_writeX_ne (c c' : Cap) (b : Byte) (s : State) (h : c' ≠ c) : readX c' (writeX c b s) = readX c' s := by
  cases c <;> cases c' <;> first | rfl | exact absurd rfl h

theorem valid_markCaptured_same (c : Cap) (s : State) : valid c (markCaptured c s) = true := by cases c <;> rfl

/-- A flag that is set after a capture was set before, or is the captured register's own. -/
theorem valid_of_markCaptured (c c' : Cap) (s : State) (h : valid c' (markCaptured c s) = true) :
    c' = c ∨ valid c' s = true := by
  cases c <;> cases c' <;> simp_all [valid]

end Sys2Proof.Machine
end

