-- ==== Sys2Proof/Laws/Ops.lean ====
section
/-! SUPPORT. One lemma per shared operation that says once everything it can do, and the inversion of a step. -/

namespace Sys2Proof.Machine

/-- The capture register and the fields it leaves: everything but the 36 bits (`30_encoding` R68). -/
theorem capture_block_only (c : Cap) (d : Byte) (s : State) :
    capture c d s = { s with
      x0 := (capture c d s).x0, x1 := (capture c d s).x1, x2 := (capture c d s).x2, x3 := (capture c d s).x3,
      v0 := (capture c d s).v0, v1 := (capture c d s).v1, v2 := (capture c d s).v2, v3 := (capture c d s).v3 } := by
  cases c <;> rfl

/-- The tag whose records a capture register captures (`10_state` R21). -/
def capTag : Cap → Byte
  | .hsb => 0x0C
  | .msb => 0x0D
  | .lsb => 0x0E
  | .sr => 0x0F

/-- A record is a capture under its register's tag, or a pass, whatever the state is. -/
theorem exec_cases (i : Instr) (s : State) :
    (∃ c, i.tag = capTag c ∧ exec i s = .next (capture c i.data s)) ∨ exec i s = .next s := by
  cases i
  case capLtcbh d => exact .inl ⟨.hsb, rfl, rfl⟩
  case capLtcbm d => exact .inl ⟨.msb, rfl, rfl⟩
  case capLtcbl d => exact .inl ⟨.lsb, rfl, rfl⟩
  case capSr d => exact .inl ⟨.sr, rfl, rfl⟩
  all_goals exact .inr rfl

/-- What a record does, by its tag alone. -/
theorem exec_decodeTagged (t d : Byte) (s : State) :
    exec (decodeTagged t d) s = .next
      (if t = 0x0C then capture .hsb d s else if t = 0x0D then capture .msb d s
       else if t = 0x0E then capture .lsb d s else if t = 0x0F then capture .sr d s else s) := by
  have reads : ∀ t : Byte, tagZ t = 0#3 → tagW t = 0#1 →
      t = 0x00 ∨ t = 0x01 ∨ t = 0x02 ∨ t = 0x03 ∨ t = 0x04 ∨ t = 0x05 ∨ t = 0x06 ∨ t = 0x07 ∨ t = 0x08 ∨ t = 0x09 ∨
      t = 0x0A ∨ t = 0x0B ∨ t = 0x0C ∨ t = 0x0D ∨ t = 0x0E ∨ t = 0x0F := by decide
  have others : ∀ t : Byte, tagZ t ≠ 0#3 ∨ tagW t ≠ 0#1 → t ≠ 0x0C ∧ t ≠ 0x0D ∧ t ≠ 0x0E ∧ t ≠ 0x0F := by decide
  by_cases hr : tagZ t = 0#3 ∧ tagW t = 0#1
  · rcases reads t hr.1 hr.2 with h | h | h | h | h | h | h | h | h | h | h | h | h | h | h | h <;> subst h <;> rfl
  · obtain ⟨a, b, c, e⟩ := others t (by tauto)
    simp only [a, b, c, e, if_false]
    unfold decodeTagged decodeWrite
    split_ifs <;> first | tauto | rfl | (split <;> rfl)

/-- What `advanceHost` leaves alone. -/
theorem advanceHost_frame (rx1 : Byte) (s : State) :
    advanceHost rx1 s = { s with
      phase := (advanceHost rx1 s).phase, mode := (advanceHost rx1 s).mode, returned := (advanceHost rx1 s).returned } := by
  unfold advanceHost
  split <;> rfl

/-- What `failXfer` leaves alone, and what it always does. -/
theorem failXfer_frame (s : State) :
    failXfer s = { s with
      phase := .idle, mode := (failXfer s).mode, handle := (failXfer s).handle, tfd := (failXfer s).tfd,
      returned := s.returned ++ [.transportFailure] } := by
  unfold failXfer
  split <;> rfl

/-- Everything `startConstruct` can do. -/
theorem startConstruct_cases {c : ConfigRequest} {s t : State} (h : startConstruct c s = .next t) :
    (checkConfig c = none ∧ t = giveBack .invalidConfiguration (endInstance s)) ∨
    ∃ cfg, checkConfig c = some cfg ∧ t = createInstance cfg s := by
  unfold startConstruct at h
  split at h
  · cases h
    exact .inl ⟨‹_›, rfl⟩
  · cases h
    exact .inr ⟨_, ‹_›, rfl⟩

/-- Everything a host without an instance can do. -/
theorem absentStep_cases {s t : State} (h : absentStep s = .next t) :
    (s.todo = [] ∧ t = s) ∨
    ∃ c rest, s.todo = .construct c :: rest ∧ startConstruct c { s with todo := rest } = .next t := by
  unfold absentStep at h
  split at h
  · cases h
    exact .inl ⟨‹_›, rfl⟩
  · exact .inr ⟨_, _, ‹_›, h⟩
  · cases h

/-- What a host without an instance leaves alone: the contents of the capture registers and of the port, the transactions that
are recorded and those to come. -/
theorem absentStep_frame {s t : State} (h : absentStep s = .next t) :
    t = { s with v0 := t.v0, v1 := t.v1, v2 := t.v2, v3 := t.v3, mode := t.mode, cfg := t.cfg, handle := t.handle, tfd := t.tfd,
                 phase := t.phase, todo := t.todo, returned := t.returned } := by
  rcases absentStep_cases h with ⟨_, h⟩ | ⟨_, _, _, h⟩
  · subst h; rfl
  · rcases startConstruct_cases h with ⟨_, h⟩ | ⟨_, _, h⟩ <;> subst h <;> rfl

/-- Everything `startInit` can do. -/
theorem startInit_cases {s t : State} (h : startInit s = .next t) :
    s.mode = .uninitialized ∧ ∃ cfg, s.cfg = some cfg ∧ t = { s with phase := .initCr0 cfg.tcType } := by
  unfold startInit at h
  split at h
  · cases h
  · cases h
  · cases h
  · cases h
  · cases h
    exact ⟨‹_›, _, ‹_›, rfl⟩

/-- Everything `startQuery` can do. -/
theorem startQuery_cases {p : Phase} {s t : State} (h : startQuery p s = .next t) :
    s.mode = .ready ∧ t = { s with phase := p } := by
  unfold startQuery at h
  split at h
  · cases h
  · cases h
  · cases h
  · cases h
    exact ⟨‹_›, rfl⟩

/-- Everything `startTransaction` can do. -/
theorem startTransaction_cases {p : Phase} {s t : State} (h : startTransaction p s = .next t) :
    s.mode ≠ .dead ∧ t = { s with phase := p } := by
  unfold startTransaction at h
  split at h
  · cases h
  · cases h
  · rename_i hm
    cases h
    exact ⟨by simp [hm], rfl⟩
  · rename_i hm
    cases h
    exact ⟨by simp [hm], rfl⟩

/-- Everything `discardInstance` can do. -/
theorem discardInstance_cases {s t : State} (h : discardInstance s = .next t) :
    s.mode ≠ .dead ∧ t = endInstance s := by
  unfold discardInstance at h
  split at h
  · cases h
  · cases h
  · rename_i hm
    cases h
    exact ⟨by simp [hm], rfl⟩
  · rename_i hm
    cases h
    exact ⟨by simp [hm], rfl⟩

/-- What sampling a port leaves alone. -/
theorem samplePort_frame (p : Port) (s : State) :
    samplePort p s = { s with returned := (samplePort p s).returned, draws := (samplePort p s).draws } := by
  cases p <;> rfl

/-- Everything `startOp` can do. -/
theorem startOp_cases {op : HostOp} {s t : State} (h : startOp op s = .next t) :
    (∃ r, op = .rd r ∧ s.mode ≠ .dead ∧ t = { s with phase := .rd r }) ∨
    (∃ r b, op = .wr r b ∧ regWritable r = true ∧ s.mode ≠ .dead ∧ t = { s with phase := .wr r b }) ∨
    (∃ tag d, op = .raw tag d ∧ t = deliver tag d s) ∨
    (op = .reset ∧ t = deliverReset s) ∨
    (∃ p, op = .sample p ∧ t = samplePort p s) ∨
    (op = .init ∧ startInit s = .next t) ∨
    (op = .getTemp ∧ s.mode = .ready ∧ t = { s with phase := .tempL }) ∨
    (op = .getFaults ∧ s.mode = .ready ∧ t = { s with phase := .faultsSr }) ∨
    (op = .discard ∧ s.mode ≠ .dead ∧ t = endInstance s) := by
  cases op with
  | rd r => exact .inl ⟨r, rfl, startTransaction_cases h⟩
  | wr r b =>
    simp only [startOp] at h
    split at h
    · exact .inr (.inl ⟨r, b, rfl, ‹_›, startTransaction_cases h⟩)
    · cases h
  | raw tag d => cases h; exact .inr (.inr (.inl ⟨tag, d, rfl, rfl⟩))
  | reset => cases h; exact .inr (.inr (.inr (.inl ⟨rfl, rfl⟩)))
  | sample p => cases h; exact .inr (.inr (.inr (.inr (.inl ⟨p, rfl, rfl⟩))))
  | construct c => cases h
  | init => exact .inr (.inr (.inr (.inr (.inr (.inl ⟨rfl, h⟩)))))
  | getTemp => exact .inr (.inr (.inr (.inr (.inr (.inr (.inl ⟨rfl, startQuery_cases h⟩))))))
  | getFaults => exact .inr (.inr (.inr (.inr (.inr (.inr (.inr (.inl ⟨rfl, startQuery_cases h⟩)))))))
  | discard => exact .inr (.inr (.inr (.inr (.inr (.inr (.inr (.inr ⟨rfl, discardInstance_cases h⟩)))))))

/-- What beginning a program line leaves alone: the 36 bits, the transactions that are recorded and those still to come. -/
theorem startOp_frame {op : HostOp} {s t : State} (h : startOp op s = .next t) :
    t = { s with input := t.input, mode := t.mode, cfg := t.cfg, handle := t.handle, tfd := t.tfd, phase := t.phase,
                 returned := t.returned, draws := t.draws } := by
  rcases startOp_cases h with ⟨_, _, _, h⟩ | ⟨_, _, _, _, _, h⟩ | ⟨_, _, _, h⟩ | ⟨_, h⟩ | ⟨p, _, h⟩ | ⟨_, h⟩ |
    ⟨_, _, h⟩ | ⟨_, _, h⟩ | ⟨_, _, h⟩
  · subst h; rfl
  · subst h; rfl
  · subst h; rfl
  · subst h; rfl
  · subst h
    cases p <;> rfl
  · obtain ⟨_, _, _, h⟩ := startInit_cases h
    subst h
    rfl
  · subst h; rfl
  · subst h; rfl
  · subst h; rfl

/-- Everything `hostAct` can do where no transaction is due. -/
theorem hostAct_cases {s t : State} (hn : busRequest s.phase = none) (h : hostAct s = .next t) :
    (s.phase = .tempSample ∧ t = finishTemp s) ∨
    (s.phase = .faultsSample ∧ t = finishFaults s) ∨
    (s.phase = .idle ∧ s.todo = [] ∧ t = s) ∨
    (s.phase = .idle ∧ ∃ op rest, s.todo = op :: rest ∧ startOp op { s with todo := rest } = .next t) := by
  unfold hostAct at h
  split at h
  · cases h
    exact .inl ⟨‹_›, rfl⟩
  · cases h
    exact .inr (.inl ⟨‹_›, rfl⟩)
  · rename_i h1 h2
    have hp : s.phase = .idle := by
      cases hp : s.phase <;> simp_all [busRequest]
    split at h
    · cases h
      exact .inr (.inr (.inl ⟨hp, ‹_›, rfl⟩))
    · exact .inr (.inr (.inr ⟨hp, _, _, ‹_›, h⟩))

/-- Everything the environment's move can do. -/
theorem envStep_cases {s t : State} (h : envStep s = .next t) :
    (∃ ev, s.events = .reset :: ev ∧ t = deliverReset { s with events := ev }) ∨
    (∃ p ev, s.events = .sample p :: ev ∧ t = samplePort p { s with events := ev }) ∨
    (∃ tx rx0 rx1 ev, busRequest s.phase = some tx ∧ s.events = .reply rx0 rx1 :: ev ∧
      t = completeXfer ⟨tx.1, tx.2, rx0, rx1⟩ { s with events := ev }) ∨
    (∃ tx ev, busRequest s.phase = some tx ∧ s.events = .fail :: ev ∧ t = failXfer { s with events := ev }) ∨
    (∃ tx, busRequest s.phase = some tx ∧ s.events = [] ∧ t = s) ∨
    (busRequest s.phase = none ∧ (∀ ev, s.events ≠ .reset :: ev) ∧ (∀ p ev, s.events ≠ .sample p :: ev) ∧
      hostAct s = .next t) := by
  unfold envStep at h
  split at h
  · cases h
    exact .inl ⟨_, ‹_›, rfl⟩
  · cases h
    exact .inr (.inl ⟨_, _, ‹_›, rfl⟩)
  · cases h
    exact .inr (.inr (.inl ⟨_, _, _, _, ‹_›, ‹_›, rfl⟩))
  · cases h
    exact .inr (.inr (.inr (.inl ⟨_, _, ‹_›, ‹_›, rfl⟩)))
  · cases h
    exact .inr (.inr (.inr (.inr (.inl ⟨_, ‹_›, ‹_›, rfl⟩))))
  · rename_i hn hr hs
    exact .inr (.inr (.inr (.inr (.inr ⟨hn, hr, hs, h⟩))))

/-- A step that goes on is one of an existing TFD, or of a host that has no instance yet. -/
theorem step_next {s t : State} (h : step s = .next t) :
    (s.tfd = true ∧ portStep s = .next t) ∨ (s.tfd = false ∧ s.mode = .absent ∧ absentStep s = .next t) := by
  unfold step at h
  split at h
  · exact .inl ⟨‹_›, h⟩
  · rename_i hn
    split at h
    · exact .inr ⟨Bool.eq_false_iff.mpr hn, ‹_›, h⟩
    · cases h
    · cases h
    · cases h

/-- The step of an existing TFD. -/
theorem step_of_tfd {s : State} (h : s.tfd = true) : step s = portStep s := by
  unfold step
  rw [if_pos h]

/-- The step of a host that has no instance yet. -/
theorem step_of_absent {s : State} (h : s.tfd = false) (hm : s.mode = .absent) : step s = absentStep s := by
  unfold step
  rw [h, hm]
  rfl

/-- The step of an instance whose TFD is discarded. -/
theorem step_of_discarded {s : State} (h : s.tfd = false) (hm : s.mode ≠ .absent) : step s = .fault .instanceDead := by
  unfold step
  rw [h]
  cases hq : s.mode
  · exact absurd hq hm
  · rfl
  · rfl
  · rfl

/-- Everything a step that goes on can do. -/
theorem step_cases {s t : State} (h : step s = .next t) :
    (∃ r rest c, s.input = .record r :: rest ∧ (decode r).tag = capTag c ∧
      t = capture c (decode r).data (takeInput rest s)) ∨
    (∃ r rest, s.input = .record r :: rest ∧ t = takeInput rest s) ∨
    (∃ rest, s.input = .reset :: rest ∧ t = blockReset (takeInput rest s)) ∨
    (∃ p rest, s.input = .sample p :: rest ∧ t = samplePort p (takeInput rest s)) ∨
    (s.input = [] ∧ envStep s = .next t) ∨
    (s.tfd = false ∧ s.mode = .absent ∧ absentStep s = .next t) := by
  rcases step_next h with ⟨_, h⟩ | h
  case inr => exact .inr (.inr (.inr (.inr (.inr h))))
  unfold portStep at h
  split at h
  · rename_i r rest hi
    rcases exec_cases (decode r) (takeInput rest s) with ⟨c, htag, hc⟩ | hp
    · rw [hc] at h
      cases h
      exact .inl ⟨r, rest, c, hi, htag, rfl⟩
    · rw [hp] at h
      cases h
      exact .inr (.inl ⟨r, rest, hi, rfl⟩)
  · cases h
    exact .inr (.inr (.inl ⟨_, ‹_›, rfl⟩))
  · cases h
    exact .inr (.inr (.inr (.inl ⟨_, _, ‹_›, rfl⟩)))
  · exact .inr (.inr (.inr (.inr (.inl ⟨‹_›, h⟩))))

end Sys2Proof.Machine
end

