-- ==== Sys2Proof/Laws/PerInstr.lean ====
section
/-! SUPPORT. The statements made per record. RowEncoding: the word of a well-formed record lies in its row of the opcode table
and holds its data byte (`30_encoding` R60, R63). -/

namespace Sys2Proof.Laws

/-- The word of a well-formed record has the row's `match` under the row's `mask`, and the record's D in bits 7:0. -/
def RowEncoding.Statement (i : Instr) : Prop :=
  i.wellFormed = true → encode i &&& i.rowMask = i.rowMatch ∧ recData (encode i) = i.data

/-- A mask whose low byte is 0 takes the data byte away: what is left depends on the tag alone. -/
theorem rowEncoding_tagMask (t d m : Byte) : mkRecord t d &&& mkRecord m 0#8 = mkRecord (t &&& m) 0#8 := by
  apply BitVec.eq_of_getLsbD_eq
  intro i _
  simp only [BitVec.getLsbD_and, getLsbD_mkRecord]
  by_cases h8 : i < 8
  · simp [h8]
  · simp [h8]

/-- A word lies in a row when its tag does. -/
theorem rowEncoding_of_tag (t d m : Byte) (mask pattern : Record) (b : Byte) (hm : mask = mkRecord m 0#8)
    (hb : t &&& m = b) (hp : mkRecord b 0#8 = pattern) : mkRecord t d &&& mask = pattern := by
  rw [hm, rowEncoding_tagMask, hb, hp]

theorem RowEncoding.rdCr0 (d : Byte) : RowEncoding.Statement (.rdCr0 d) := fun _ =>
  ⟨rowEncoding_of_tag 0x00 d 0xFF 0xFF00 0x0000 0x00 (by decide) (by decide) (by decide), recData_mkRecord 0x00 d⟩

theorem RowEncoding.rdCr1 (d : Byte) : RowEncoding.Statement (.rdCr1 d) := fun _ =>
  ⟨rowEncoding_of_tag 0x01 d 0xFF 0xFF00 0x0100 0x01 (by decide) (by decide) (by decide), recData_mkRecord 0x01 d⟩

theorem RowEncoding.rdMask (d : Byte) : RowEncoding.Statement (.rdMask d) := fun _ =>
  ⟨rowEncoding_of_tag 0x02 d 0xFF 0xFF00 0x0200 0x02 (by decide) (by decide) (by decide), recData_mkRecord 0x02 d⟩

theorem RowEncoding.rdCjhf (d : Byte) : RowEncoding.Statement (.rdCjhf d) := fun _ =>
  ⟨rowEncoding_of_tag 0x03 d 0xFF 0xFF00 0x0300 0x03 (by decide) (by decide) (by decide), recData_mkRecord 0x03 d⟩

theorem RowEncoding.rdCjlf (d : Byte) : RowEncoding.Statement (.rdCjlf d) := fun _ =>
  ⟨rowEncoding_of_tag 0x04 d 0xFF 0xFF00 0x0400 0x04 (by decide) (by decide) (by decide), recData_mkRecord 0x04 d⟩

theorem RowEncoding.rdFth0 (d : Byte) : RowEncoding.Statement (.rdFth0 d) := fun _ =>
  ⟨rowEncoding_of_tag 0x05 d 0xFF 0xFF00 0x0500 0x05 (by decide) (by decide) (by decide), recData_mkRecord 0x05 d⟩

theorem RowEncoding.rdFth1 (d : Byte) : RowEncoding.Statement (.rdFth1 d) := fun _ =>
  ⟨rowEncoding_of_tag 0x06 d 0xFF 0xFF00 0x0600 0x06 (by decide) (by decide) (by decide), recData_mkRecord 0x06 d⟩

theorem RowEncoding.rdFth2 (d : Byte) : RowEncoding.Statement (.rdFth2 d) := fun _ =>
  ⟨rowEncoding_of_tag 0x07 d 0xFF 0xFF00 0x0700 0x07 (by decide) (by decide) (by decide), recData_mkRecord 0x07 d⟩

theorem RowEncoding.rdFth3 (d : Byte) : RowEncoding.Statement (.rdFth3 d) := fun _ =>
  ⟨rowEncoding_of_tag 0x08 d 0xFF 0xFF00 0x0800 0x08 (by decide) (by decide) (by decide), recData_mkRecord 0x08 d⟩

theorem RowEncoding.rdCjto (d : Byte) : RowEncoding.Statement (.rdCjto d) := fun _ =>
  ⟨rowEncoding_of_tag 0x09 d 0xFF 0xFF00 0x0900 0x09 (by decide) (by decide) (by decide), recData_mkRecord 0x09 d⟩

theorem RowEncoding.rdCjth (d : Byte) : RowEncoding.Statement (.rdCjth d) := fun _ =>
  ⟨rowEncoding_of_tag 0x0A d 0xFF 0xFF00 0x0A00 0x0A (by decide) (by decide) (by decide), recData_mkRecord 0x0A d⟩

theorem RowEncoding.rdCjtl (d : Byte) : RowEncoding.Statement (.rdCjtl d) := fun _ =>
  ⟨rowEncoding_of_tag 0x0B d 0xFF 0xFF00 0x0B00 0x0B (by decide) (by decide) (by decide), recData_mkRecord 0x0B d⟩

theorem RowEncoding.capLtcbh (d : Byte) : RowEncoding.Statement (.capLtcbh d) := fun _ =>
  ⟨rowEncoding_of_tag 0x0C d 0xFF 0xFF00 0x0C00 0x0C (by decide) (by decide) (by decide), recData_mkRecord 0x0C d⟩

theorem RowEncoding.capLtcbm (d : Byte) : RowEncoding.Statement (.capLtcbm d) := fun _ =>
  ⟨rowEncoding_of_tag 0x0D d 0xFF 0xFF00 0x0D00 0x0D (by decide) (by decide) (by decide), recData_mkRecord 0x0D d⟩

theorem RowEncoding.capLtcbl (d : Byte) : RowEncoding.Statement (.capLtcbl d) := fun _ =>
  ⟨rowEncoding_of_tag 0x0E d 0xFF 0xFF00 0x0E00 0x0E (by decide) (by decide) (by decide), recData_mkRecord 0x0E d⟩

theorem RowEncoding.capSr (d : Byte) : RowEncoding.Statement (.capSr d) := fun _ =>
  ⟨rowEncoding_of_tag 0x0F d 0xFF 0xFF00 0x0F00 0x0F (by decide) (by decide) (by decide), recData_mkRecord 0x0F d⟩

theorem RowEncoding.wrCr0 (d : Byte) : RowEncoding.Statement (.wrCr0 d) := fun _ =>
  ⟨rowEncoding_of_tag 0x80 d 0xFF 0xFF00 0x8000 0x80 (by decide) (by decide) (by decide), recData_mkRecord 0x80 d⟩

theorem RowEncoding.wrCr1 (d : Byte) : RowEncoding.Statement (.wrCr1 d) := fun _ =>
  ⟨rowEncoding_of_tag 0x81 d 0xFF 0xFF00 0x8100 0x81 (by decide) (by decide) (by decide), recData_mkRecord 0x81 d⟩

theorem RowEncoding.wrMask (d : Byte) : RowEncoding.Statement (.wrMask d) := fun _ =>
  ⟨rowEncoding_of_tag 0x82 d 0xFF 0xFF00 0x8200 0x82 (by decide) (by decide) (by decide), recData_mkRecord 0x82 d⟩

theorem RowEncoding.wrCjhf (d : Byte) : RowEncoding.Statement (.wrCjhf d) := fun _ =>
  ⟨rowEncoding_of_tag 0x83 d 0xFF 0xFF00 0x8300 0x83 (by decide) (by decide) (by decide), recData_mkRecord 0x83 d⟩

theorem RowEncoding.wrCjlf (d : Byte) : RowEncoding.Statement (.wrCjlf d) := fun _ =>
  ⟨rowEncoding_of_tag 0x84 d 0xFF 0xFF00 0x8400 0x84 (by decide) (by decide) (by decide), recData_mkRecord 0x84 d⟩

theorem RowEncoding.wrFth0 (d : Byte) : RowEncoding.Statement (.wrFth0 d) := fun _ =>
  ⟨rowEncoding_of_tag 0x85 d 0xFF 0xFF00 0x8500 0x85 (by decide) (by decide) (by decide), recData_mkRecord 0x85 d⟩

theorem RowEncoding.wrFth1 (d : Byte) : RowEncoding.Statement (.wrFth1 d) := fun _ =>
  ⟨rowEncoding_of_tag 0x86 d 0xFF 0xFF00 0x8600 0x86 (by decide) (by decide) (by decide), recData_mkRecord 0x86 d⟩

theorem RowEncoding.wrFth2 (d : Byte) : RowEncoding.Statement (.wrFth2 d) := fun _ =>
  ⟨rowEncoding_of_tag 0x87 d 0xFF 0xFF00 0x8700 0x87 (by decide) (by decide) (by decide), recData_mkRecord 0x87 d⟩

theorem RowEncoding.wrFth3 (d : Byte) : RowEncoding.Statement (.wrFth3 d) := fun _ =>
  ⟨rowEncoding_of_tag 0x88 d 0xFF 0xFF00 0x8800 0x88 (by decide) (by decide) (by decide), recData_mkRecord 0x88 d⟩

theorem RowEncoding.wrCjto (d : Byte) : RowEncoding.Statement (.wrCjto d) := fun _ =>
  ⟨rowEncoding_of_tag 0x89 d 0xFF 0xFF00 0x8900 0x89 (by decide) (by decide) (by decide), recData_mkRecord 0x89 d⟩

theorem RowEncoding.wrCjth (d : Byte) : RowEncoding.Statement (.wrCjth d) := fun _ =>
  ⟨rowEncoding_of_tag 0x8A d 0xFF 0xFF00 0x8A00 0x8A (by decide) (by decide) (by decide), recData_mkRecord 0x8A d⟩

theorem RowEncoding.wrCjtl (d : Byte) : RowEncoding.Statement (.wrCjtl d) := fun _ =>
  ⟨rowEncoding_of_tag 0x8B d 0xFF 0xFF00 0x8B00 0x8B (by decide) (by decide) (by decide), recData_mkRecord 0x8B d⟩

theorem RowEncoding.rsvdWro (a : BitVec 4) (d : Byte) : RowEncoding.Statement (.rsvdWro a d) := by
  intro h
  have hrow : ∀ (a : BitVec 4), 12#4 ≤ a → mkTag 1#1 0#3 a &&& 0xFC#8 = 0x8C#8 := by decide
  have ha : 12#4 ≤ a := by simpa [Instr.wellFormed] using h
  exact ⟨rowEncoding_of_tag _ d 0xFC 0xFC00 0x8C00 0x8C (by decide) (hrow a ha) (by decide), recData_mkRecord _ d⟩

theorem RowEncoding.rsvdRd10 (a : BitVec 4) (d : Byte) : RowEncoding.Statement (.rsvdRd10 a d) := by
  intro h
  have hrow : ∀ (a : BitVec 4), mkTag 0#1 1#3 a &&& 0xF0#8 = 0x10#8 := by decide
  exact ⟨rowEncoding_of_tag _ d 0xF0 0xF000 0x1000 0x10 (by decide) (hrow a) (by decide), recData_mkRecord _ d⟩

theorem RowEncoding.rsvdRd20 (z : BitVec 3) (a : BitVec 4) (d : Byte) : RowEncoding.Statement (.rsvdRd20 z a d) := by
  intro h
  have hrow : ∀ (z : BitVec 3) (a : BitVec 4), 2#3 ≤ z → z ≤ 3#3 → mkTag 0#1 z a &&& 0xE0#8 = 0x20#8 := by decide
  have hz : 2#3 ≤ z ∧ z ≤ 3#3 := by simpa [Instr.wellFormed] using h
  exact ⟨rowEncoding_of_tag _ d 0xE0 0xE000 0x2000 0x20 (by decide) (hrow z a hz.1 hz.2) (by decide), recData_mkRecord _ d⟩

theorem RowEncoding.rsvdRd40 (z : BitVec 3) (a : BitVec 4) (d : Byte) : RowEncoding.Statement (.rsvdRd40 z a d) := by
  intro h
  have hrow : ∀ (z : BitVec 3) (a : BitVec 4), 4#3 ≤ z → mkTag 0#1 z a &&& 0xC0#8 = 0x40#8 := by decide
  have hz : 4#3 ≤ z := by simpa [Instr.wellFormed] using h
  exact ⟨rowEncoding_of_tag _ d 0xC0 0xC000 0x4000 0x40 (by decide) (hrow z a hz) (by decide), recData_mkRecord _ d⟩

theorem RowEncoding.rsvdWr90 (a : BitVec 4) (d : Byte) : RowEncoding.Statement (.rsvdWr90 a d) := by
  intro h
  have hrow : ∀ (a : BitVec 4), mkTag 1#1 1#3 a &&& 0xF0#8 = 0x90#8 := by decide
  exact ⟨rowEncoding_of_tag _ d 0xF0 0xF000 0x9000 0x90 (by decide) (hrow a) (by decide), recData_mkRecord _ d⟩

theorem RowEncoding.rsvdWrA0 (z : BitVec 3) (a : BitVec 4) (d : Byte) : RowEncoding.Statement (.rsvdWrA0 z a d) := by
  intro h
  have hrow : ∀ (z : BitVec 3) (a : BitVec 4), 2#3 ≤ z → z ≤ 3#3 → mkTag 1#1 z a &&& 0xE0#8 = 0xA0#8 := by decide
  have hz : 2#3 ≤ z ∧ z ≤ 3#3 := by simpa [Instr.wellFormed] using h
  exact ⟨rowEncoding_of_tag _ d 0xE0 0xE000 0xA000 0xA0 (by decide) (hrow z a hz.1 hz.2) (by decide), recData_mkRecord _ d⟩

theorem RowEncoding.rsvdWrC0 (z : BitVec 3) (a : BitVec 4) (d : Byte) : RowEncoding.Statement (.rsvdWrC0 z a d) := by
  intro h
  have hrow : ∀ (z : BitVec 3) (a : BitVec 4), 4#3 ≤ z → mkTag 1#1 z a &&& 0xC0#8 = 0xC0#8 := by decide
  have hz : 4#3 ≤ z := by simpa [Instr.wellFormed] using h
  exact ⟨rowEncoding_of_tag _ d 0xC0 0xC000 0xC000 0xC0 (by decide) (hrow z a hz) (by decide), recData_mkRecord _ d⟩

end Sys2Proof.Laws
end

