-- ==== Sys2Proof/Laws/Run.lean ====
section
/-! SUPPORT. A run of k steps, one step at a time, so that no proof unfolds the host's interface. -/

namespace Sys2Proof.Safety

open Sys2Proof.Machine

@[simp] theorem run_zero (s : State) : run 0 s = .next s := rfl

/-- A run whose first step goes on is the run of what it leaves. -/
theorem run_succ_of_next {s t : State} (k : Nat) (h : step s = .next t) : run (k + 1) s = run k t := by
  have hs : Host.Core.step Sys2Proof.core s = .next t := h
  simp only [run, Host.Core.run, hs]
  rfl

/-- A run that faults at its first step. -/
theorem run_succ_of_fault {s : State} {f : Fault} (k : Nat) (h : step s = .fault f) : run (k + 1) s = .fault f := by
  have hs : Host.Core.step Sys2Proof.core s = .fault f := h
  simp only [run, Host.Core.run, hs]
  rfl

/-- With nothing at the port the environment moves. -/
theorem step_of_empty {s : State} (ht : s.tfd = true) (h : s.input = []) : step s = envStep s := by
  rw [step_of_tfd ht]
  unfold portStep
  rw [h]

/-- The transaction that is due completes. -/
theorem envStep_of_reply {s : State} {tx : Byte × Byte} {rx0 rx1 : Byte} {ev : List Event}
    (h : busRequest s.phase = some tx) (he : s.events = .reply rx0 rx1 :: ev) :
    envStep s = .next (completeXfer ⟨tx.1, tx.2, rx0, rx1⟩ { s with events := ev }) := by
  unfold envStep
  rw [h, he]

/-- The transaction that is due fails. -/
theorem envStep_of_fail {s : State} {tx : Byte × Byte} {ev : List Event}
    (h : busRequest s.phase = some tx) (he : s.events = .fail :: ev) :
    envStep s = .next (failXfer { s with events := ev }) := by
  unfold envStep
  rw [h, he]

/-- With no transaction due and no event of the outside next, the host acts. -/
theorem envStep_of_host {s : State} (h : busRequest s.phase = none) (he : outsideNext s.events = false) :
    envStep s = hostAct s := by
  unfold envStep
  rw [h]
  cases hev : s.events with
  | nil => rfl
  | cons e ev =>
    cases e with
    | reset => simp [outsideNext, hev] at he
    | sample => simp [outsideNext, hev] at he
    | fail => rfl
    | reply => rfl

/-- The host's invariant of an instance that stands: what is left to say of it. -/
theorem hostInv_of_standing {t : State} (hm : t.mode = .uninitialized ∨ t.mode = .ready) (hh : t.handle = true)
    (ht : t.tfd = true) (hc : t.cfg.isSome = true) (hr : .invalidConfiguration ∉ t.returned)
    (hi : inInit t.phase = true → t.mode = .uninitialized)
    (hy : ∀ c tc, t.cfg = some c → t.phase = .initCr0 tc ∨ t.phase = .initCr1 tc → c.tcType = tc)
    (hq : inQuery t.phase = true → t.mode = .ready) (hw : ∀ r b, t.phase = .wr r b → regWritable r = true) :
    HostInv t where
  together := hh.trans ht.symm
  absentNothing h := by rcases hm with e | e <;> simp [e] at h
  stands _ := ⟨ht, hc⟩
  readyOwns _ := ⟨hh, hc⟩
  deadReleased h := by rcases hm with e | e <;> simp [e] at h
  noTfd h := by simp [ht] at h
  busOwned _ := hh
  initOwns h := ⟨hi h, hh, hc⟩
  initType := hy
  queryReady := hq
  writeLegal := hw
  checkFirst h := absurd h hr

/-- The host's invariant of an instance that ended. -/
theorem hostInv_of_dead {t : State} (hm : t.mode = .dead) (hh : t.handle = false) (ht : t.tfd = false) (hp : t.phase = .idle)
    (hr : .invalidConfiguration ∈ t.returned → t.returned = [.invalidConfiguration] ∧ t.bus = []) : HostInv t where
  together := hh.trans ht.symm
  absentNothing h := by simp [hm] at h
  stands h := by simp [hm] at h
  readyOwns h := by simp [hm] at h
  deadReleased _ := ⟨hh, hp, ht⟩
  noTfd _ := .inl hm
  busOwned h := by simp [hp, busRequest] at h
  initOwns h := by simp [hp, inInit] at h
  initType _ _ _ h := by simp [hp] at h
  queryReady h := by simp [hp, inQuery] at h
  writeLegal _ _ h := by simp [hp] at h
  checkFirst h := ⟨(hr h).1, (hr h).2, hm⟩

/-- Where a TFD exists under the host's invariant, its instance stands and no configuration was rejected. -/
theorem hostInv_standing {s : State} (h : HostInv s) (ht : s.tfd = true) :
    (s.mode = .uninitialized ∨ s.mode = .ready) ∧ s.handle = true ∧ s.cfg.isSome = true ∧
      .invalidConfiguration ∉ s.returned := by
  have hm : s.mode = .uninitialized ∨ s.mode = .ready := by
    cases hm : s.mode with
    | absent => simp [(h.absentNothing hm).2.1] at ht
    | uninitialized => exact .inl rfl
    | ready => exact .inr rfl
    | dead => simp [(h.deadReleased hm).2.2] at ht
  refine ⟨hm, h.together.trans ht, (h.stands hm).2, fun hr => ?_⟩
  rcases hm with e | e <;> simp [(h.checkFirst hr).2.2] at e

@[simp] theorem SameBlock.refl (s : State) : SameBlock s s := ⟨rfl, rfl, rfl, rfl, rfl, rfl, rfl, rfl⟩

theorem SameBlock.trans {a b c : State} (h : SameBlock a b) (k : SameBlock b c) : SameBlock a c :=
  ⟨h.x0.trans k.x0, h.x1.trans k.x1, h.x2.trans k.x2, h.x3.trans k.x3,
   h.v0.trans k.v0, h.v1.trans k.v1, h.v2.trans k.v2, h.v3.trans k.v3⟩

/-- Two states with the same block drive the same ports. -/
theorem SameBlock.ports {s t : State} (h : SameBlock s t) :
    portT s = portT t ∧ portTOk s = portTOk t ∧ portF s = portF t ∧ portFOk s = portFOk t ∧ portFcnt s = portFcnt t := by
  simp [portT, portTOk, portF, portFOk, portFcnt, readX, valid, h.x0, h.x1, h.x2, h.x3, h.v0, h.v1, h.v2, h.v3]

end Sys2Proof.Safety
end

