-- ==== Sys2Proof/Laws/Temperature.lean ====
section
/-! SUPPORT. The temperature decode in numbers, from which linear arithmetic settles the rest. -/

namespace Sys2Proof.Machine

/-- The 19-bit field as a number. -/
theorem field_toNat (l m h : Byte) :
    (h ++ m ++ l.extractLsb' 5 3 : Field).toNat = h.toNat * 2048 + m.toNat * 8 + l.toNat / 32 := by
  have hl := l.isLt
  have hm := m.isLt
  have outer := @BitVec.toNat_append 16 3 (h ++ m) (l.extractLsb' 5 3)
  rw [@BitVec.toNat_append 8 8 h m] at outer
  have low : (l.extractLsb' 5 3).toNat = l.toNat / 32 := by
    rw [BitVec.extractLsb'_toNat, Nat.shiftRight_eq_div_pow]
    omega
  refine outer.trans ?_
  rw [low, ← Nat.shiftLeft_add_eq_or_of_lt (show m.toNat < 2 ^ 8 by omega),
    ← Nat.shiftLeft_add_eq_or_of_lt (show l.toNat / 32 < 2 ^ 3 by omega)]
  simp only [Nat.shiftLeft_eq]
  omega

/-- The 24-bit word as a number. -/
theorem word24_toNat (l m h : Byte) : (word24 l m h).toNat = h.toNat * 65536 + m.toNat * 256 + l.toNat := by
  have hl := l.isLt
  have hm := m.isLt
  have outer := @BitVec.toNat_append 16 8 (h ++ m) l
  rw [@BitVec.toNat_append 8 8 h m] at outer
  refine outer.trans ?_
  rw [← Nat.shiftLeft_add_eq_or_of_lt (show m.toNat < 2 ^ 8 by omega),
    ← Nat.shiftLeft_add_eq_or_of_lt (show l.toNat < 2 ^ 8 by omega)]
  simp only [Nat.shiftLeft_eq]
  omega

/-- The sign bit and the seven other bits of the high byte as numbers. -/
theorem highByte_parts : ∀ h : Byte,
    (h.getLsbD 7).toNat = h.toNat / 128 ∧ (h &&& 0x7F).toNat = h.toNat % 128 ∧
    h.getLsbD 7 = decide (128 ≤ h.toNat) := by
  decide

/-- `OR` of the three shifted bytes is their sum. -/
theorem tdecCompose_number (l m h : Byte) :
    tdecCompose l m h = h.toNat % 128 * 65536 + m.toNat * 256 + l.toNat := by
  have hl := l.isLt
  have hm := m.isLt
  unfold tdecCompose
  have outer : (h &&& 0x7F).toNat <<< 16 ||| m.toNat <<< 8 = ((h &&& 0x7F).toNat <<< 8 ||| m.toNat) <<< 8 := by
    rw [Nat.shiftLeft_or_distrib]
    congr 1
  rw [outer, ← Nat.shiftLeft_add_eq_or_of_lt (show m.toNat < 2 ^ 8 by omega),
    ← Nat.shiftLeft_add_eq_or_of_lt (show l.toNat < 2 ^ 8 by omega), (highByte_parts h).2.1]
  simp only [Nat.shiftLeft_eq]
  omega

/-- The magnitude as a number. -/
theorem tdecMagnitude_number (l m h : Byte) :
    tdecMagnitude l m h = h.toNat % 128 * 2048 + m.toNat * 8 + l.toNat / 32 := by
  have hl := l.isLt
  have hm := m.isLt
  unfold tdecMagnitude
  rw [tdecCompose_number, Nat.shiftRight_eq_div_pow]
  simp only [Config.discardW]
  omega

/-- The count as a number. -/
theorem tdec_number (l m h : Byte) :
    tdec l m h =
      (h.toNat : Int) * 2048 + m.toNat * 8 + (l.toNat / 32 : Nat) - 524288 * (h.toNat / 128 : Nat) := by
  have hh := h.isLt
  unfold tdec
  rw [tdecMagnitude_number, (highByte_parts h).2.2]
  simp only [Config.signWeight]
  split
  · rename_i hs
    simp at hs
    omega
  · rename_i hs
    simp at hs
    omega

/-- The three bytes of a count as numbers. -/
theorem encBytes_toNat (n : Int) :
    (encHsb n).toNat = (n % 524288).toNat / 2048 % 256 ∧ (encMsb n).toNat = (n % 524288).toNat / 8 % 256 ∧
    (encLsb n).toNat = (n % 524288).toNat % 8 * 32 := by
  have pattern : (encPattern n).toNat = (n % 524288).toNat := by simp [encPattern, BitVec.toNat_ofInt]
  refine ⟨?_, ?_, ?_⟩
  · unfold encHsb
    rw [BitVec.extractLsb'_toNat, Nat.shiftRight_eq_div_pow, pattern]
  · unfold encMsb
    rw [BitVec.extractLsb'_toNat, Nat.shiftRight_eq_div_pow, pattern]
  · have low : (encLsb n).toNat = ((encPattern n).extractLsb' 0 3).toNat <<< 5 ||| 0 := @BitVec.toNat_append 3 5 _ _
    rw [low, BitVec.extractLsb'_toNat, Nat.shiftRight_eq_div_pow, Nat.shiftLeft_eq, pattern]
    simp

end Sys2Proof.Machine
end

