-- ==== Sys2Proof/Tests/Slice0.lean ====
section
/-! SUPPORT. Tests of the model against the spec's own vectors (`95_test_vectors`), the smoke test of WellFormed, and for every
statement with hypotheses a concrete state and operands that meet them. -/

namespace Sys2Proof.Tests

open Sys2Proof Sys2Proof.Machine Sys2Proof.Safety

/-! ## Small states -/

/-- A block with these 36 bits in the environment of reset. -/
def blk (x0 x1 x2 x3 : Byte) (v0 v1 v2 v3 : Bool) : State :=
  { State.reset with x0 := x0, x1 := x1, x2 := x2, x3 := x3, v0 := v0, v1 := v1, v2 := v2, v3 := v3 }

/-- Start state A of `95_test_vectors` section 3.2. -/
def stA : State := blk 0x11 0x22 0x33 0x44 true true true true

/-- Start state B: after reset. -/
def stB : State := State.reset

/-- Start state C: a frame waiting for its high byte. -/
def stC : State := blk 0x11 0x22 0x33 0x44 false true true false

/-- A Ready host. -/
def stReady : State :=
  { State.reset with mode := .ready, cfg := some ⟨0, 0, .k⟩ }

/-- An instance that was released: its handle and its TFD are discarded with it. -/
def stDead : State := { State.reset with mode := .dead, handle := false, tfd := false }

/-- The 36 bits of a state: the registers, then the flags. -/
def bits (s : State) : List Byte × List Bool := ([s.x0, s.x1, s.x2, s.x3], [s.v0, s.v1, s.v2, s.v3])

/-- One step with a word at the port ends in these 36 bits, with `T_OK` and `F_OK` as given. -/
def stepGives (s : State) (w : Record) (x : List Byte) (v : List Bool) (tOk fOk : Bool) : Bool :=
  match step { s with input := [.record w] } with
  | .next t => decide (bits t = (x, v)) && portTOk t == tOk && portFOk t == fOk
  | .fault _ => false
  | .refused _ => false

/-- What one step answers, as far as `p` looks. -/
def answers (o : Result) (p : State → Bool) : Bool :=
  match o with
  | .next t => p t
  | .fault _ => false
  | .refused _ => false

/-! ## WellFormed: an ill-formed term for each check (`30_encoding` R64) -/

/-- A = 11 is WR.CJTL's tag 0x8B, not one of 0x8C to 0x8F. -/
theorem test_illFormed_rsvdWro : (Instr.rsvdWro 11 0).wellFormed = false := by decide

/-- Z = 1 and Z = 4 belong to the rows before and after. -/
theorem test_illFormed_rsvdRd20 :
    (Instr.rsvdRd20 1 0 0).wellFormed = false ∧ (Instr.rsvdRd20 4 0 0).wellFormed = false := by decide

theorem test_illFormed_rsvdRd40 : (Instr.rsvdRd40 3 0 0).wellFormed = false := by decide

theorem test_illFormed_rsvdWrA0 :
    (Instr.rsvdWrA0 1 0 0).wellFormed = false ∧ (Instr.rsvdWrA0 4 0 0).wellFormed = false := by decide

theorem test_illFormed_rsvdWrC0 : (Instr.rsvdWrC0 3 15 0xFF).wellFormed = false := by decide

/-! ## Decoding: words written out from `30_encoding` R61 and R63, W, Z, A and D from the left -/

/-- Tags 0x0C to 0x0F. -/
theorem test_decode_captures :
    decode 0b0000110000011001#16 = .capLtcbh 0x19 ∧
    decode 0b0000110110010000#16 = .capLtcbm 0x90 ∧
    decode 0b0000111011100000#16 = .capLtcbl 0xE0 ∧
    decode 0b0000111100000101#16 = .capSr 0x05 := by decide

/-- Tags 0x00 to 0x0B. -/
theorem test_decode_reads :
    decode 0b0000000011111111#16 = .rdCr0 0xFF ∧
    decode 0b0000000100100011#16 = .rdCr1 0x23 ∧
    decode 0b0000001001111111#16 = .rdMask 0x7F ∧
    decode 0b0000001100000001#16 = .rdCjhf 0x01 ∧
    decode 0b0000010010000000#16 = .rdCjlf 0x80 ∧
    decode 0b0000010101010101#16 = .rdFth0 0x55 ∧
    decode 0b0000011010101010#16 = .rdFth1 0xAA ∧
    decode 0b0000011100001111#16 = .rdFth2 0x0F ∧
    decode 0b0000100011110000#16 = .rdFth3 0xF0 ∧
    decode 0b0000100100010001#16 = .rdCjto 0x11 ∧
    decode 0b0000101011111111#16 = .rdCjth 0xFF ∧
    decode 0b0000101110000000#16 = .rdCjtl 0x80 := by decide

/-- Tags 0x80 to 0x8B. -/
theorem test_decode_writes :
    decode 0b1000000010000000#16 = .wrCr0 0x80 ∧
    decode 0b1000000100100011#16 = .wrCr1 0x23 ∧
    decode 0b1000001001111111#16 = .wrMask 0x7F ∧
    decode 0b1000001100000001#16 = .wrCjhf 0x01 ∧
    decode 0b1000010010000000#16 = .wrCjlf 0x80 ∧
    decode 0b1000010101010101#16 = .wrFth0 0x55 ∧
    decode 0b1000011010101010#16 = .wrFth1 0xAA ∧
    decode 0b1000011100001111#16 = .wrFth2 0x0F ∧
    decode 0b1000100011110000#16 = .wrFth3 0xF0 ∧
    decode 0b1000100100010001#16 = .wrCjto 0x11 ∧
    decode 0b1000101011111110#16 = .wrCjth 0xFE ∧
    decode 0b1000101111111111#16 = .wrCjtl 0xFF := by decide

/-- Tags 0x10, 0x1C, 0x1F, 0x20, 0x3F, 0x4E and 0x7F: the corners of the three rows of RSVD.RD. -/
theorem test_decode_reserved_reads :
    decode 0b0001000011111111#16 = .rsvdRd10 0 0xFF ∧
    decode 0b0001110000011001#16 = .rsvdRd10 12 0x19 ∧
    decode 0b0001111101011010#16 = .rsvdRd10 15 0x5A ∧
    decode 0b0010000000000001#16 = .rsvdRd20 2 0 0x01 ∧
    decode 0b0011111110000000#16 = .rsvdRd20 3 15 0x80 ∧
    decode 0b0100111000000000#16 = .rsvdRd40 4 14 0x00 ∧
    decode 0b0111111111111111#16 = .rsvdRd40 7 15 0xFF := by decide

/-- Tags 0x8C, 0x8F, 0x90, 0x9F, 0xA0, 0xBF, 0xCC and 0xFF: the corners of RSVD.WRO and of the three rows of RSVD.WR. -/
theorem test_decode_reserved_writes :
    decode 0b1000110011111111#16 = .rsvdWro 12 0xFF ∧
    decode 0b1000111100000000#16 = .rsvdWro 15 0x00 ∧
    decode 0b1001000010101010#16 = .rsvdWr90 0 0xAA ∧
    decode 0b1001111100000001#16 = .rsvdWr90 15 0x01 ∧
    decode 0b1010000000000010#16 = .rsvdWrA0 2 0 0x02 ∧
    decode 0b1011111101000000#16 = .rsvdWrA0 3 15 0x40 ∧
    decode 0b1100110000000000#16 = .rsvdWrC0 4 12 0x00 ∧
    decode 0b1111111111111111#16 = .rsvdWrC0 7 15 0xFF := by decide

/-- The encoder writes the same words (`30_encoding` R66: `CAP.LTCBH 0x19`; `95_test_vectors` S20, S26, S29). -/
theorem test_encode_words :
    encode (.capLtcbh 0x19) = 0x0C19 ∧ encode (.wrCr1 0x23) = 0x8123 ∧ encode (.rsvdRd40 4 14 0x00) = 0x4E00 ∧
    encode (.rsvdWrC0 4 12 0x00) = 0xCC00 := by decide

/-- The tag byte comes first in a stream (`00_scope` R12); a lone byte is no record (`30_encoding` R65). -/
theorem test_decode_bytes :
    decodeBytes [0x0C, 0x19, 0x7F] = .ok (.capLtcbh 0x19, [0x7F]) ∧ decodeBytes [0x0C] = .error .truncated ∧
    decodeBytes [] = .error .truncated := by decide

/-- A row's word reaches the decoder with its bits as the table numbers them. -/
theorem test_decode_tableWord :
    decodeTableWord 16 0x0EAB = some (.capLtcbl 0xAB) ∧ decodeTableWord 17 0 = none := by decide

/-- The very next step accepts the word that was placed. -/
theorem test_withFetchWord :
    answers (step (State.reset.withFetchWord 16 0x0EAB)) (fun t => t.x2 == 0xAB && t.v2 && t.input.isEmpty) = true := by
  decide

/-! ## One step, `95_test_vectors` section 3.2 -/

/-- S1 and S8: the low byte opens a frame. -/
theorem test_capLtcbl :
    stepGives stA 0x0EAB [0x11, 0x22, 0xAB, 0x44] [false, false, true, true] false true = true ∧
    stepGives stB 0x0E00 [0, 0, 0x00, 0] [false, false, true, false] false false = true := by decide

/-- S2 and S13: the middle byte voids the high one. -/
theorem test_capLtcbm :
    stepGives stA 0x0DAB [0x11, 0xAB, 0x33, 0x44] [false, true, true, true] false true = true ∧
    stepGives stC 0x0D00 [0x11, 0x00, 0x33, 0x44] [false, true, true, false] false false = true := by decide

/-- S10 and S12: the high byte completes a frame, and alone does not. -/
theorem test_capLtcbh :
    stepGives stB 0x0C19 [0x19, 0, 0, 0] [true, false, false, false] false false = true ∧
    stepGives stC 0x0C80 [0x80, 0x22, 0x33, 0x44] [true, true, true, false] true false = true := by decide

/-- S4 and S14: the status byte leaves the frame flags alone. -/
theorem test_capSr :
    stepGives stA 0x0FAB [0x11, 0x22, 0x33, 0xAB] [true, true, true, true] true true = true ∧
    stepGives stC 0x0F00 [0x11, 0x22, 0x33, 0x00] [false, true, true, true] false true = true := by decide

/-- S15 to S18: read records. -/
theorem test_reads_pass :
    stepGives stA 0x00FF [0x11, 0x22, 0x33, 0x44] [true, true, true, true] true true = true ∧
    stepGives stA 0x0123 [0x11, 0x22, 0x33, 0x44] [true, true, true, true] true true = true ∧
    stepGives stA 0x0AFF [0x11, 0x22, 0x33, 0x44] [true, true, true, true] true true = true ∧
    stepGives stA 0x0B80 [0x11, 0x22, 0x33, 0x44] [true, true, true, true] true true = true := by decide

/-- S19 to S21 and S32: write records. -/
theorem test_writes_pass :
    stepGives stA 0x8080 [0x11, 0x22, 0x33, 0x44] [true, true, true, true] true true = true ∧
    stepGives stA 0x8123 [0x11, 0x22, 0x33, 0x44] [true, true, true, true] true true = true ∧
    stepGives stA 0x8BFF [0x11, 0x22, 0x33, 0x44] [true, true, true, true] true true = true ∧
    stepGives stB 0x8080 [0, 0, 0, 0] [false, false, false, false] false false = true := by decide

/-- S22, S25, S26, S29: the look-alikes of the captures. -/
theorem test_reserved_ignored :
    stepGives stA 0x8CFF [0x11, 0x22, 0x33, 0x44] [true, true, true, true] true true = true ∧
    stepGives stA 0x1C19 [0x11, 0x22, 0x33, 0x44] [true, true, true, true] true true = true ∧
    stepGives stA 0x4E00 [0x11, 0x22, 0x33, 0x44] [true, true, true, true] true true = true ∧
    stepGives stA 0xCC00 [0x11, 0x22, 0x33, 0x44] [true, true, true, true] true true = true := by decide

/-- `70_reset_and_hazards` R180: the reset event clears the four flags. -/
theorem test_reset_event :
    answers (step { stA with input := [.reset, .record 0x0E00] })
      (fun t => !t.v0 && !t.v1 && !t.v2 && !t.v3 && t.input == [.record 0x0E00]) = true := by decide

/-! ## The two decodes and the tables -/

/-- V2, V3, V4, V7, V11, V17, V21, V27 and V32 of `95_test_vectors` section 2.1. -/
theorem test_tdec_vectors :
    tdec 0x00 0x00 0x19 = 51200 ∧ tdec 0x00 0x00 0x80 = -262144 ∧ tdec 0xE0 0xFF 0x7F = 262143 ∧
    tdec 0xFF 0xFF 0xFF = -1 ∧ tdec 0x00 0x40 0x06 = 12800 ∧ tdec 0x00 0x60 0xF0 = -32000 ∧
    tdec 0x20 0x00 0x80 = -262143 ∧ tdec 0xAA 0x55 0xAA = -175443 ∧ tdec 0xE0 0xFF 0x00 = 2047 := by decide

/-- The patterns on port `T` of V3, V6, V17 and V28. -/
theorem test_portT_patterns :
    portT (blk 0x80 0x00 0x00 0 true true true false) = 0x40000 ∧
    portT (blk 0xFF 0xFF 0xE0 0 true true true false) = 0x7FFFF ∧
    portT (blk 0xF0 0x60 0x00 0 true true true false) = 0x78300 ∧
    portT (blk 0x55 0xAA 0x55 0 true true true false) = 0x2AD52 := by decide

/-- X1, X2, X5 and X9 of `95_test_vectors` section 2.3, from their counts. -/
theorem test_enc_bytes :
    (encHsb 3200, encMsb 3200, encLsb 3200) = (0x01, 0x90, 0x00) ∧
    (encHsb (-2), encMsb (-2), encLsb (-2)) = (0xFF, 0xFF, 0xC0) ∧
    (encHsb 262143, encMsb 262143, encLsb 262143) = (0x7F, 0xFF, 0xE0) ∧
    (encHsb 175442, encMsb 175442, encLsb 175442) = (0x55, 0xAA, 0x40) := by decide

/-- The floors of X2 and X10. -/
theorem test_enc_count : encCount (-1 / 100) = -2 ∧ encCount (-13706449 / 10000) = -175443 := by
  constructor
  · show ⌊(-1 / 100 * ((128 : Nat) : Rat) : Rat)⌋ = -2
    rw [Int.floor_eq_iff]
    norm_num
  · show ⌊(-13706449 / 10000 * ((128 : Nat) : Rat) : Rat)⌋ = -175443
    rw [Int.floor_eq_iff]
    norm_num

/-- W1, W5, W11, W13 and W16 of `95_test_vectors` section 3.1. -/
theorem test_fdec_vectors :
    fdec 0x00 = [] ∧ fdec 0x05 = [.fOpen, .fTclow] ∧ fdec 0x85 = [.fOpen, .fTclow, .fCjrange] ∧
    fdec 0xAA = [.fOvuv, .fTchigh, .fCjhigh, .fCjrange] ∧
    fdec 0x7E = [.fOvuv, .fTclow, .fTchigh, .fCjlow, .fCjhigh, .fTcrange] := by decide

/-- `FCNT` of W15 and W17. -/
theorem test_fcnt :
    portFcnt (blk 0 0 0 0xFF false false false true) = 8 ∧ portFcnt (blk 0 0 0 0xFE false false false true) = 7 := by
  decide

/-- The register map's pairs (`20_memory` R40), as example E11 has them. -/
theorem test_register_map :
    readTag .cjth = 0x0A ∧ writeTag .cjth = 0x8A ∧ readTag .sr = 0x0F ∧ writeAddr? .sr = none ∧
    writeAddr? .cr0 = some 0x80 ∧ writeAddr? .cjtl = some 0x8B := by decide

/-- The bytes of CR1 for the eight types (example E7). -/
theorem test_cr1_bytes :
    cr1Byte .b = 0x20 ∧ cr1Byte .e = 0x21 ∧ cr1Byte .j = 0x22 ∧ cr1Byte .k = 0x23 ∧ cr1Byte .n = 0x24 ∧
    cr1Byte .r = 0x25 ∧ cr1Byte .s = 0x26 ∧ cr1Byte .t = 0x27 := by decide

/-- The codes of CR0 (`10_state` R26). -/
theorem test_cr0_codes :
    cr0Conversion 0x80 = some .continuous ∧ cr0Conversion 0x40 = some .oneShot ∧ cr0Conversion 0x00 = none := by decide

/-! ## One move of the environment -/

/-- P1 of `95_test_vectors` section 4.2: the second send of `INIT K` is `[0x81, 0x23]`, and the host is Ready. -/
theorem test_init_second_write :
    answers (step { State.reset with phase := .initCr1 .k, events := [.reply 0x00 0x00] })
      (fun t => t.bus == [⟨0x81, 0x23, 0x00, 0x00⟩] && t.input == [.record 0x8123] && t.mode == .ready) = true := by
  decide

/-- P2 of section 4.3: the status read sends `[0x0F, 0x00]` and delivers `0x0F05`. -/
theorem test_status_read :
    answers (step { stReady with phase := .faultsSr, events := [.reply 0xA5 0x05] })
      (fun t => t.bus == [⟨0x0F, 0x00, 0xA5, 0x05⟩] && t.input == [.record 0x0F05]) = true := by decide

/-- P3 of section 4.4: the failed third read delivers no record. -/
theorem test_failed_read :
    answers (step { stReady with phase := .tempH, events := [.fail] })
      (fun t => t.bus == [] && t.input == [] && t.phase == .idle && t.returned == [.transportFailure]) = true := by
  decide

/-- P1 of section 4.2: the query returns 3200 counts. -/
theorem test_query_result :
    answers (step { blk 0x01 0x90 0x00 0 true true true false with mode := .ready, phase := .tempSample })
      (fun t => t.returned == [.temperature 3200]) = true := by decide

/-- P5 of section 4.6: `SAMPLE T_OK` after a frame read in the wrong order gives 0. -/
theorem test_sample_tOk :
    answers (step { blk 0x19 0x00 0x00 0 false false true false with todo := [.sample .tOk] })
      (fun t => t.returned == [.sampledTOk false]) = true := by decide

/-- P3 of section 4.4: `REC 0x1C, 0x19` puts its record at the port. -/
theorem test_raw_record :
    answers (step { State.reset with todo := [.raw 0x1C 0x19] }) (fun t => t.input == [.record 0x1C19]) = true := by
  decide

/-- Before construction: no configuration checked, no instance, no handle, no TFD. -/
def stAbsent : State := State.unbuilt fun _ => 0x5A

/-- `42_host_sequences` R136, R137, `60_exceptions` R166: type code 8 is rejected, no transaction is issued, no handle is owned,
and the construction is dead. -/
theorem test_construct_bad_type :
    answers (step { stAbsent with todo := [.construct ⟨0, 0, 8⟩] })
      (fun t => t.returned == [.invalidConfiguration] && t.bus == [] && t.mode == .dead && !t.handle && !t.tfd) = true := by
  decide

/-- `70_reset_and_hazards` R182 (1), (2): a configuration that passes its check leads to the launch state. -/
theorem test_construct_launches :
    step { stAbsent with todo := [.construct ⟨5, 1, 3⟩] } = .next (State.launch (fun _ => 0x5A) ⟨5, 1, .k⟩) := rfl

/-- `60_exceptions` R164: before the check no transaction begins, so none can fail, whatever the transport would do. -/
theorem test_no_transaction_before_check :
    step { stAbsent with todo := [.rd .sr, .construct ⟨0, 0, 8⟩], events := [.fail] } = .fault .noInstance := rfl

/-- P1 of `95_test_vectors` section 4.2: `INIT K` makes the write of CR0 due. -/
theorem test_init_starts :
    answers (step { State.launch (fun _ => 0) ⟨0, 0, .k⟩ with todo := [.init] })
      (fun t => busRequest t.phase == some (0x80, 0x80) && t.phase == .initCr0 .k) = true := by decide

/-- `42_host_sequences` R131: `WR SR` has no address. -/
theorem test_write_readOnly : step { State.reset with todo := [.wr .sr 0x00] } = .refused (.writeToReadOnly .sr) := rfl

/-- `00_scope` R5: in the middle of a query, before the record of the middle byte is accepted, the consumer samples `T_OK`. -/
theorem test_sample_within_query :
    answers (step { stReady with phase := .tempH, v2 := true, input := [.sample .tOk, .record 0x0D90] })
      (fun t => t.returned == [.sampledTOk false] && t.input == [.record 0x0D90] && t.phase == .tempH) = true := by
  decide

/-- `00_scope` R5: while a write of `INIT` is pending the consumer samples `IN_READY`. -/
theorem test_sample_within_init :
    answers (step { stReady with mode := .uninitialized, phase := .initCr0 .k, events := [.sample .inReady] })
      (fun t => t.returned == [.sampledInReady true] && t.phase == .initCr0 .k && t.bus == []) = true := by decide

/-- `42_host_sequences` R137: instance, handle and TFD are discarded together, on release and on a failed `INIT`. -/
theorem test_discarded_together :
    answers (step { stReady with todo := [.discard] }) (fun t => t.mode == .dead && !t.handle && !t.tfd) = true ∧
    answers (step { stReady with mode := .uninitialized, phase := .initCr1 .k, events := [.fail] })
      (fun t => t.mode == .dead && !t.handle && !t.tfd && t.returned == [.transportFailure]) = true := by decide

/-- `42_host_sequences` R135, R137: after that not even `SAMPLE` gets a step. -/
theorem test_discarded_takes_no_step : step { stDead with todo := [.sample .inReady] } = .fault .instanceDead := rfl

/-- `42_host_sequences` R137: the handle is created with the instance, so a bare `RD` before `INIT` uses the bus with it. -/
theorem test_bare_read_owns_handle :
    answers (step { State.reset with todo := [.rd .sr] }) (fun t => t.handle && t.phase == .rd .sr && t.bus == []) = true := by
  decide

/-! ## Witnesses: the hypotheses of each statement can be met -/

/-- ReservedTagsAreIgnored, at both ends of each range. -/
theorem witness_ReservedTagsAreIgnored :
    ∀ t ∈ ([0x10, 0x7F, 0x8C, 0x8F, 0x90, 0xFF] : List Byte), 0x10 ≤ t ∧ (t ≤ 0x7F ∨ 0x8C ≤ t) := by decide

/-- The three mnemonics of ReservedTagsAreIgnored where its cases meet. -/
theorem witness_ReservedTagsAreIgnored_names :
    (decode 0x7F00).mnemonic = "RSVD.RD" ∧ (decode 0x8C00).mnemonic = "RSVD.WRO" ∧
    (decode 0x8F00).mnemonic = "RSVD.WRO" ∧ (decode 0x9000).mnemonic = "RSVD.WR" := by decide

/-- StepRunsTheDecodedRecord, with a TFD, with a discarded one and before construction. -/
theorem witness_StepRunsTheDecodedRecord :
    (({ stA with input := [.record 0x0C19, .reset] } : State).input = .record 0x0C19 :: [.reset] ∧ stA.tfd = true) ∧
    (({ stDead with input := [.record 0x0C19] } : State).input = .record 0x0C19 :: [] ∧ stDead.tfd = false) ∧
    (({ stAbsent with input := [.record 0x0C19] } : State).input = .record 0x0C19 :: [] ∧ stAbsent.tfd = false ∧
      ∃ t, step { stAbsent with input := [.record 0x0C19] } = .next t) :=
  ⟨⟨rfl, rfl⟩, ⟨rfl, rfl⟩, rfl, rfl, _, rfl⟩

/-- StepIsRuleR68: a record at the port; nothing at the port; a sampling at the port. -/
theorem witness_StepIsRuleR68 :
    (stA.tfd = true ∧ ({ stA with input := [.record 0x0E00] } : State).input = .record 0x0E00 :: []) ∧
    ((∀ r rest, stA.input ≠ .record r :: rest) ∧ (∀ rest, stA.input ≠ .reset :: rest) ∧ ∃ t, step stA = .next t) ∧
    ((∀ r rest, ({ stA with input := [.sample .f] } : State).input ≠ .record r :: rest) ∧
      (∀ rest, ({ stA with input := [.sample .f] } : State).input ≠ .reset :: rest) ∧
      ∃ t, step { stA with input := [.sample .f] } = .next t) :=
  ⟨⟨rfl, rfl⟩, ⟨by simp [stA, blk, State.reset, State.launch, State.unbuilt],
    by simp [stA, blk, State.reset, State.launch, State.unbuilt], _, rfl⟩,
   by simp, by simp, _, rfl⟩

/-- DecodeOfEncodeIsTheRecord, at the ends of the ranges of Z and A. -/
theorem witness_DecodeOfEncodeIsTheRecord :
    (Instr.rsvdWro 12 0).wellFormed = true ∧ (Instr.rsvdWro 15 0xFF).wellFormed = true ∧
    (Instr.rsvdRd20 2 0 0).wellFormed = true ∧ (Instr.rsvdRd20 3 15 0).wellFormed = true ∧
    (Instr.rsvdRd40 4 0 0).wellFormed = true ∧ (Instr.rsvdWrC0 7 15 0xFF).wellFormed = true := by decide

/-- Four records after a reset event: a frame with the status byte inside it. -/
def recs : List Record := [mkRecord 0x0E 0x01, mkRecord 0x0D 0x02, mkRecord 0x0F 0x05, mkRecord 0x0C 0x03]

/-- FrameInvariantAfterReset: what stands at the port. -/
theorem witness_FrameInvariantAfterReset :
    stA.tfd = true ∧ ({ stA with input := .reset :: recs.map .record } : State).input = .reset :: recs.map .record :=
  ⟨rfl, rfl⟩

/-- FrameInvariantAfterReset: a last frame. -/
theorem witness_FrameInvariantAfterReset_frame : LastFrame recs 0x01 0x02 0x03 :=
  ⟨[], [], [mkRecord 0x0F 0x05], [], rfl, by simp, by simp, by simp⟩

/-- FrameInvariantAfterReset: a last status byte. -/
theorem witness_FrameInvariantAfterReset_status : LastStatus recs 0x05 :=
  ⟨[mkRecord 0x0E 0x01, mkRecord 0x0D 0x02], [mkRecord 0x0C 0x03], rfl, by simp⟩

/-- CaptureRegisterHasOneWriter: a step on a record, on a reset event and on nothing. -/
theorem witness_CaptureRegisterHasOneWriter :
    (∃ t, step { stA with input := [.record 0x0C19] } = .next t) ∧
    (∃ t, step { stA with input := [.reset] } = .next t) ∧ ∃ t, step stA = .next t :=
  ⟨⟨_, rfl⟩, ⟨_, rfl⟩, ⟨_, rfl⟩⟩

/-- BlockIgnoresItsEnvironment: two states with one block and two environments. -/
theorem witness_BlockIgnoresItsEnvironment :
    SameBlock { stA with input := [.record 0x0D07] }
      { stA with input := [.record 0x0D07, .reset], mode := .ready, handle := true, draws := 9 } ∧ stA.tfd = true :=
  ⟨⟨rfl, rfl, rfl, rfl, rfl, rfl, rfl, rfl⟩, rfl⟩

/-- ResetEventEffect. -/
theorem witness_ResetEventEffect :
    stA.tfd = true ∧ ({ stA with input := [.reset, .record 0x0E00] } : State).input = .reset :: [.record 0x0E00] := ⟨rfl, rfl⟩

theorem witness_OutsideResetReachesThePort :
    ({ stA with events := [.reset, .fail] } : State).tfd = true ∧
      ({ stA with events := [.reset, .fail] } : State).input = [] ∧
    ({ stA with events := [.reset, .fail] } : State).events = .reset :: [.fail] := ⟨rfl, rfl, rfl⟩

/-- TdecRangeIsExactlyTheField: both ends of the range, each decoded from its bytes (V3, V4). -/
theorem witness_TdecRangeIsExactlyTheField :
    ((-262144 : Int) ≤ -262144 ∧ (-262144 : Int) ≤ 262143 ∧ tdec 0x00 0x00 0x80 = -262144) ∧
    ((-262144 : Int) ≤ 262143 ∧ (262143 : Int) ≤ 262143 ∧ tdec 0xE0 0xFF 0x7F = 262143) := by decide

/-- TdecIgnoresTheDiscardedBits: two different low bytes (V6, V7). -/
theorem witness_TdecIgnoresTheDiscardedBits :
    (0xE0 : Byte).extractLsb' 5 3 = (0xFF : Byte).extractLsb' 5 3 ∧ (0xE0 : Byte) ≠ 0xFF := by decide

/-- PortTDependsOnThreeBytesAlone: two states that differ in everything else of the block. -/
theorem witness_PortTDependsOnThreeBytesAlone :
    stA.x0 = (blk 0x11 0x22 0x33 0x05 false false false false).x0 ∧
    stA.x1 = (blk 0x11 0x22 0x33 0x05 false false false false).x1 ∧
    stA.x2 = (blk 0x11 0x22 0x33 0x05 false false false false).x2 ∧
    stA.v0 ≠ (blk 0x11 0x22 0x33 0x05 false false false false).v0 := ⟨rfl, rfl, rfl, by decide⟩

/-- EncodeTemperatureRoundTrip: the lower end (X6), a value that is no count (X5), one that is (X3). -/
theorem witness_EncodeTemperatureRoundTrip :
    ((-2048 : Rat) ≤ -2048 ∧ (-2048 : Rat) < 2048) ∧ ((-2048 : Rat) ≤ 20479999 / 10000 ∧ (20479999 / 10000 : Rat) < 2048) ∧
    ((-2048 : Rat) ≤ 100 ∧ (100 : Rat) < 2048 ∧ (100 : Rat) = celsius 12800) := by
  refine ⟨⟨?_, ?_⟩, ⟨?_, ?_⟩, ?_, ?_, ?_⟩ <;> norm_num [celsius, Config.countsPerDegree]

/-- FdecIsMonotone: example E6, and the two ends of the superset chain. -/
theorem witness_FdecIsMonotone :
    (0x05 : Byte) &&& 0x85 = 0x05 ∧ (0x00 : Byte) &&& 0xFF = 0x00 ∧ (0xFF : Byte) &&& 0xFF = 0xFF := by decide

/-- FaultPortsCarryTheList: two bytes with one list; they are the same byte. -/
theorem witness_FaultPortsCarryTheList : fdec 0x05 = fdec 0b00000101 := rfl

/-- TagsOfTheRegisterMap: two registers at one address (they are the same register), and the tags at the ends of the two
unnamed ranges, with their named neighbours. -/
theorem witness_TagsOfTheRegisterMap :
    (∃ r q : Reg, regAddr r = regAddr q) ∧
    (∀ t ∈ ([0x10, 0x7F, 0x8C, 0xFF] : List Byte), (0x10 ≤ t ∧ t ≤ 0x7F) ∨ 0x8C ≤ t) ∧
    readTag .sr = 0x0F ∧ writeAddr? .cr0 = some 0x80 ∧ writeAddr? .cjtl = some 0x8B :=
  ⟨⟨.sr, .sr, rfl⟩, by decide, rfl, rfl, rfl⟩

/-- A read that completes, of the first and of the last address. -/
theorem witness_ReadTransactionCompletes :
    ∀ r ∈ [Reg.cr0, Reg.sr], ({ stReady with phase := .rd r, events := [.reply 0xA5 0x05, .fail] } : State).tfd = true ∧
      ({ stReady with phase := .rd r, events := [.reply 0xA5 0x05, .fail] } : State).input = [] ∧
      ({ stReady with phase := .rd r, events := [.reply 0xA5 0x05, .fail] } : State).phase = .rd r ∧
      ({ stReady with phase := .rd r, events := [.reply 0xA5 0x05, .fail] } : State).events = .reply 0xA5 0x05 :: [.fail] := by
  decide

theorem witness_WriteTransactionCompletes :
    ∀ r ∈ [Reg.cr0, Reg.cjtl], ({ stReady with phase := .wr r 0x7F, events := [.reply 0 0] } : State).tfd = true ∧
      ({ stReady with phase := .wr r 0x7F, events := [.reply 0 0] } : State).input = [] ∧
      ({ stReady with phase := .wr r 0x7F, events := [.reply 0 0] } : State).phase = .wr r 0x7F ∧
      ({ stReady with phase := .wr r 0x7F, events := [.reply 0 0] } : State).events = .reply 0 0 :: [] := by decide

/-- WriteToReadOnlyIsRefused, for each of the four. -/
theorem witness_WriteToReadOnlyIsRefused :
    ∀ r ∈ [Reg.ltcbh, Reg.ltcbm, Reg.ltcbl, Reg.sr],
      ({ stReady with todo := [.wr r 0] } : State).tfd = true ∧
      ({ stReady with todo := [.wr r 0] } : State).input = [] ∧ ({ stReady with todo := [.wr r 0] } : State).phase = .idle ∧
      outsideNext ({ stReady with todo := [.wr r 0] } : State).events = false ∧
      ({ stReady with todo := [.wr r 0] } : State).todo = .wr r 0 :: [] ∧
      (r = .ltcbh ∨ r = .ltcbm ∨ r = .ltcbl ∨ r = .sr) := by decide

/-- TransportFailureEffect: a failure outside and inside `INIT`, and a transaction that never ends. -/
theorem witness_TransportFailureEffect :
    (busRequest (.tempL) = some (0x0E, 0x00) ∧ inInit .tempL = false ∧
      ({ stReady with phase := .tempL, events := [.fail] } : State).events = .fail :: []) ∧
    (busRequest (.initCr0 .k) = some (0x80, 0x80) ∧ inInit (.initCr0 .k) = true ∧
      ({ stB with phase := .initCr0 .k, events := [.fail] } : State).events = .fail :: []) ∧
    (({ stReady with phase := .rd .mask } : State).events = [] ∧ busRequest (.rd .mask) = some (0x02, 0x00) ∧
      stReady.tfd = true ∧ stReady.input = []) := by decide

/-- OneRecordPerCompletedTransaction: a step that completes one, and a step that completes none. -/
theorem witness_OneRecordPerCompletedTransaction :
    (∃ t, step { stReady with phase := .rd .sr, events := [.reply 0 0x05] } = .next t) ∧
    ∃ t, step { stReady with input := [.record 0x0F05] } = .next t := ⟨⟨_, rfl⟩, ⟨_, rfl⟩⟩

/-- InvalidConfigurationIsRejected: a bad code, each bad identifier, and the ends of what is accepted; a request that leads to
the launch state. -/
theorem witness_InvalidConfigurationIsRejected :
    (∀ c ∈ [(⟨0, 0, 8⟩ : ConfigRequest), ⟨-1, 0, 3⟩, ⟨0, -1, 3⟩, ⟨0, 0, 0⟩, ⟨5, 1, 7⟩],
      ({ stAbsent with todo := [.construct c] } : State).tfd = false ∧
      ({ stAbsent with todo := [.construct c] } : State).mode = .absent ∧
      ({ stAbsent with todo := [.construct c] } : State).todo = .construct c :: []) ∧
    checkConfig ⟨5, 1, 7⟩ = some ⟨5, 1, .t⟩ ∧
    (7 < (⟨0, 0, 8⟩ : ConfigRequest).tcCode) ∧ (⟨-1, 0, 3⟩ : ConfigRequest).busId < 0 ∧
    (⟨0, -1, 3⟩ : ConfigRequest).deviceId < 0 ∧
    ((⟨5, 1, 7⟩ : ConfigRequest).tcCode ≤ 7 ∧ 0 ≤ (⟨5, 1, 7⟩ : ConfigRequest).busId ∧
      0 ≤ (⟨5, 1, 7⟩ : ConfigRequest).deviceId) := by decide

/-- InitWritesCr0ThenCr1 and InitConfiguresTheChip: program P1's `INIT K`. -/
def stInit : State :=
  { stB with cfg := some ⟨0, 1, .k⟩, todo := [.init], events := [.reply 0 0, .reply 0 0] }

theorem witness_Init :
    stInit.tfd = true ∧
      stInit.input = [] ∧ stInit.phase = .idle ∧ stInit.mode = .uninitialized ∧ stInit.todo = .init :: [] ∧
    stInit.cfg = some ⟨0, 1, .k⟩ ∧ stInit.events = .reply 0 0 :: .reply 0 0 :: [] := by decide

/-- GetTempReturnsTdecOfTheReplies: program P1's query. -/
def stTemp : State := { stReady with todo := [.getTemp], events := [.reply 0 0x00, .reply 0 0x90, .reply 0 0x01] }

theorem witness_GetTempReturnsTdecOfTheReplies :
    stTemp.tfd = true ∧ stTemp.input = [] ∧ stTemp.phase = .idle ∧ stTemp.mode = .ready ∧ stTemp.todo = .getTemp :: [] ∧
    stTemp.events = .reply 0 0x00 :: .reply 0 0x90 :: .reply 0 0x01 :: [] ∧ outsideNext [] = false := by
  decide

/-- GetFaultsReturnsFdecOfTheReply: program P2's first query. -/
def stFaults : State := { stReady with todo := [.getFaults], events := [.reply 0 0x05] }

theorem witness_GetFaultsReturnsFdecOfTheReply :
    stFaults.tfd = true ∧
      stFaults.input = [] ∧ stFaults.phase = .idle ∧ stFaults.mode = .ready ∧ stFaults.todo = .getFaults :: [] ∧
    stFaults.events = .reply 0 0x05 :: [] ∧ outsideNext [] = false := by decide

/-- GetTempFailureLeavesNoMixedFrame: a failure of the first, the second and the third read. -/
theorem witness_GetTempFailureLeavesNoMixedFrame :
    ({ stTemp with events := [.fail] } : State).events = .fail :: [] ∧
    ({ stTemp with events := [.reply 0 0xE0, .fail] } : State).events = .reply 0 0xE0 :: .fail :: [] ∧
    ({ stTemp with events := [.reply 0 0xE0, .reply 0 0x8F, .fail] } : State).events =
      .reply 0 0xE0 :: .reply 0 0x8F :: .fail :: [] ∧
    stTemp.tfd = true ∧
      stTemp.input = [] ∧ stTemp.phase = .idle ∧ stTemp.mode = .ready ∧ stTemp.todo = .getTemp :: [] := by decide

/-- HostOperationsStopOutsideTheirState, one state for each of its clauses; a dead host whose TFD still stands is no state of
a run, and the clause about it holds there too. -/
theorem witness_HostOperationsStopOutsideTheirState :
    (({ stB with todo := [.getTemp] } : State).mode = .uninitialized ∧ ({ stB with todo := [.getTemp] } : State).phase = .idle) ∧
    (({ stReady with todo := [.init] } : State).mode = .ready ∧ stReady.phase = .idle) ∧
    ({ stReady with todo := [.construct ⟨0, 0, 3⟩] } : State).todo = .construct ⟨0, 0, 3⟩ :: [] ∧
    (stAbsent.tfd = false ∧ stAbsent.mode = .absent ∧ ({ stAbsent with todo := [.rd .sr] } : State).todo = .rd .sr :: [] ∧
      ∀ c, HostOp.rd .sr ≠ .construct c) ∧
    (({ stB with mode := .dead, todo := [.wr .cr0 0x80] } : State).mode = .dead ∧ regWritable .cr0 = true) ∧
    (({ stReady with todo := [.discard] } : State).mode = .ready ∧ ({ stReady with todo := [.discard] } : State).todo = .discard :: []) ∧
    stB.tfd = true ∧ stB.input = [] ∧ stB.phase = .idle ∧ outsideNext stB.events = false ∧
    stReady.tfd = true ∧ stReady.input = [] ∧ outsideNext stReady.events = false ∧ stDead.tfd = false ∧
    stDead.mode ≠ .absent := by
  refine ⟨by decide, by decide, rfl, ⟨rfl, rfl, rfl, fun c h => by cases h⟩, ?_⟩
  decide

/-- SampleBetweenAnyTwoSteps: a sampling before a record at the port, and one in the middle of a query; a port whose value the
spec says, and one whose it does not. -/
theorem witness_SampleBetweenAnyTwoSteps :
    stA.tfd = true ∧
      ({ stA with input := [.sample .t, .record 0x0E00] } : State).input = .sample .t :: [.record 0x0E00] ∧
    ({ stReady with phase := .tempM, events := [.sample .f, .fail] } : State).input = [] ∧
    ({ stReady with phase := .tempM, events := [.sample .f, .fail] } : State).events = .sample .f :: [.fail] ∧
    (sampledValue .t stA).isSome = true ∧ sampledValue .f stReady = none := by decide

/-- The premises of SampleReadsThePort: all three data ports usable. -/
theorem witness_SampleReadsThePort :
    stA.tfd = true ∧
      stA.input = [] ∧ stA.phase = .idle ∧ outsideNext stA.events = false ∧ portTOk stA = true ∧ portFOk stA = true ∧
    ∀ p ∈ [Port.t, Port.tOk, Port.f, Port.fOk, Port.fcnt, Port.inReady],
      ({ stA with todo := [.sample p] } : State).todo = .sample p :: [] := by decide

/-- A Ready host meets the host's invariant. -/
theorem hostInv_stReady : HostInv stReady := by
  constructor <;> simp [stReady, State.reset, State.launch, State.unbuilt, inInit, inQuery, busRequest]

/-- HostInvariantKept: a Ready host that steps; a host in the middle of `INIT` that steps; a discarded instance; a construction
that is rejected. -/
theorem witness_HostInvariantKept :
    (HostInv stReady ∧ ∃ t, step stReady = .next t) ∧
    (HostInv { stReady with mode := .uninitialized, phase := .initCr1 .k, events := [.fail] } ∧
      ∃ t, step { stReady with mode := .uninitialized, phase := .initCr1 .k, events := [.fail] } = .next t) ∧
    HostInv stDead ∧
    HostInv { stAbsent with todo := [.construct ⟨0, 0, 8⟩] } ∧
    ∃ t, step { stAbsent with todo := [.construct ⟨0, 0, 8⟩] } = .next t := by
  refine ⟨⟨hostInv_stReady, _, rfl⟩, ⟨?_, _, rfl⟩, ?_, ?_, _, rfl⟩ <;>
    constructor <;> simp [stReady, stDead, stAbsent, State.reset, State.launch, State.unbuilt, inInit, inQuery, busRequest]

/-- QueryInvariantKept: a query with its middle record at the port. -/
theorem witness_QueryInvariantKept :
    QueryInv { stReady with phase := .tempH, v2 := true, input := [.record (mkRecord 0x0D 0x90)] } ∧
    ∃ t, step { stReady with phase := .tempH, v2 := true, input := [.record (mkRecord 0x0D 0x90)] } = .next t :=
  ⟨⟨by decide, .inl ⟨⟨0x90, rfl⟩, rfl⟩⟩, _, rfl⟩

/-- QueriesSampleValidPorts: a query of each kind about to sample its port. -/
theorem witness_QueriesSampleValidPorts :
    QueryInv { stA with mode := .ready, phase := .tempSample } ∧
    QueryInv { stA with mode := .ready, phase := .faultsSample } ∧
    stA.tfd = true ∧ stA.input = [] ∧ outsideNext stA.events = false :=
  ⟨⟨by decide, .inr ⟨rfl, rfl, rfl, rfl⟩⟩, ⟨by decide, .inr ⟨rfl, rfl⟩⟩, rfl, rfl, rfl⟩

theorem witness_DeviceConfigurationIsImmutable :
    HostInv stReady ∧ stReady.cfg = some ⟨0, 0, .k⟩ ∧ ∃ t, step stReady = .next t := ⟨hostInv_stReady, rfl, _, rfl⟩

end Sys2Proof.Tests
end

