-- ==== Sys2Proof/Proofs/Scope.lean ====
section
/-! The obligations of `00_scope`: the consumer samples between any two steps (R5), and no step changes the Device
Configuration of a device that is constructed (R7). -/

namespace Sys2Proof.Safety

open Sys2Proof.Machine

/-! ## Sampling -/

/-- A sampling returns one result, the port's value where the spec says it, and changes nothing but the counter. -/
theorem samplePort_returns (p : Port) (s : State) :
    ∃ v n, samplePort p s = { s with returned := s.returned ++ [v], draws := n } ∧
      ∀ w, sampledValue p s = some w → v = w := by
  cases p with
  | t =>
    refine ⟨.sampledT (useT s), s.draws + 1, rfl, fun w hw => ?_⟩
    obtain ⟨hok, rfl⟩ : portTOk s = true ∧ .sampledT (portT s) = w := by simpa [sampledValue] using hw
    rw [useT, if_pos hok]
  | tOk =>
    refine ⟨.sampledTOk (portTOk s), s.draws, rfl, fun w hw => ?_⟩
    simpa [sampledValue, portTOk, valid] using hw
  | f =>
    refine ⟨.sampledF (useF s), s.draws + 1, rfl, fun w hw => ?_⟩
    obtain ⟨hok, rfl⟩ : portFOk s = true ∧ .sampledF (portF s) = w := by simpa [sampledValue] using hw
    rw [useF, if_pos hok]
  | fOk => exact ⟨.sampledFOk (portFOk s), s.draws, rfl, fun w hw => by simpa [sampledValue, portFOk, valid] using hw⟩
  | fcnt =>
    refine ⟨.sampledFcnt (useFcnt s), s.draws + 1, rfl, fun w hw => ?_⟩
    obtain ⟨hok, rfl⟩ : portFOk s = true ∧ .sampledFcnt (portFcnt s) = w := by simpa [sampledValue] using hw
    rw [useFcnt, if_pos hok]
  | inReady => exact ⟨.sampledInReady true, s.draws, rfl, fun w hw => by simpa [sampledValue] using hw⟩

/-- A sampling that stands first at the port is taken. -/
theorem step_of_sample {s : State} {p : Port} {rest : List PortEvent} (ht : s.tfd = true)
    (hi : s.input = .sample p :: rest) : step s = .next (samplePort p (takeInput rest s)) := by
  rw [step_of_tfd ht]
  unfold portStep
  rw [hi]

/-- A sampling of the outside that comes first is taken, whether a transaction is due or not. -/
theorem envStep_of_sample {s : State} {p : Port} {ev : List Event} (he : s.events = .sample p :: ev) :
    envStep s = .next (samplePort p { s with events := ev }) := by
  unfold envStep
  rw [he]

/-- Settles O54: at the port and among the events the step is the sampling, and its result reads the block alone. -/
theorem sampleBetweenAnyTwoSteps : Obligations.SampleBetweenAnyTwoSteps := by
  intro s p ht
  refine ⟨fun rest hi => ?_, fun ev hi he => ?_⟩
  · rw [step_of_sample ht hi]
    obtain ⟨v, n, hs, hv⟩ := samplePort_returns p (takeInput rest s)
    exact ⟨v, n, congrArg _ hs, hv⟩
  · rw [step_of_empty ht hi, envStep_of_sample he]
    obtain ⟨v, n, hs, hv⟩ := samplePort_returns p { s with events := ev }
    exact ⟨v, n, congrArg _ hs, hv⟩

/-! ## The Device Configuration -/

@[simp] theorem samplePort_cfg (p : Port) (s : State) : (samplePort p s).cfg = s.cfg := by rw [samplePort_frame]

@[simp] theorem advanceHost_cfg (rx1 : Byte) (s : State) : (advanceHost rx1 s).cfg = s.cfg := by rw [advanceHost_frame]

@[simp] theorem completeXfer_cfg (x : Xfer) (s : State) : (completeXfer x s).cfg = s.cfg := by simp [completeXfer]

@[simp] theorem failXfer_cfg (s : State) : (failXfer s).cfg = s.cfg := by rw [failXfer_frame]

@[simp] theorem finishTemp_cfg (s : State) : (finishTemp s).cfg = s.cfg := rfl

@[simp] theorem finishFaults_cfg (s : State) : (finishFaults s).cfg = s.cfg := rfl

/-- No program line of a standing instance changes its configuration: `construct` faults there. -/
theorem startOp_cfg {op : HostOp} {s t : State} (h : startOp op s = .next t) : t.cfg = s.cfg := by
  rcases startOp_cases h with ⟨_, _, _, rfl⟩ | ⟨_, _, _, _, _, rfl⟩ | ⟨_, _, _, rfl⟩ | ⟨_, rfl⟩ | ⟨p, _, rfl⟩ | ⟨_, h⟩ |
    ⟨_, _, rfl⟩ | ⟨_, _, rfl⟩ | ⟨_, _, rfl⟩
  case inr.inr.inr.inr.inr.inl =>
    obtain ⟨_, _, _, rfl⟩ := startInit_cases h
    rfl
  all_goals simp

/-- No act of the host changes the configuration. -/
theorem hostAct_cfg {s t : State} (hn : busRequest s.phase = none) (h : hostAct s = .next t) : t.cfg = s.cfg := by
  rcases hostAct_cases hn h with ⟨_, rfl⟩ | ⟨_, rfl⟩ | ⟨_, _, rfl⟩ | ⟨_, _, _, _, hop⟩
  · simp
  · simp
  · rfl
  · exact (startOp_cfg hop :)

/-- No move of the environment changes the configuration. -/
theorem envStep_cfg {s t : State} (h : envStep s = .next t) : t.cfg = s.cfg := by
  rcases envStep_cases h with ⟨_, _, rfl⟩ | ⟨_, _, _, rfl⟩ | ⟨_, _, _, _, _, _, rfl⟩ | ⟨_, _, _, _, rfl⟩ |
    ⟨_, _, _, rfl⟩ | ⟨hn, _, _, hact⟩
  · simp
  · simp
  · simp
  · simp
  · rfl
  · exact hostAct_cfg hn hact

/-- Only a host that has no instance yet gives the device a configuration. -/
theorem step_cfg {s t : State} (h : step s = .next t) : t.cfg = s.cfg ∨ s.mode = .absent := by
  rcases step_cases h with ⟨_, _, _, _, _, rfl⟩ | ⟨_, _, _, rfl⟩ | ⟨_, _, rfl⟩ | ⟨_, _, _, rfl⟩ | ⟨_, henv⟩ | ⟨_, hm, _⟩
  · exact .inl (by simp)
  · exact .inl (by simp)
  · exact .inl (by simp)
  · exact .inl (by simp)
  · exact .inl (envStep_cfg henv)
  · exact .inr hm

/-- Settles O60: a step could change the configuration only before construction, where by the host's invariant none stands. -/
theorem deviceConfigurationIsImmutable : Obligations.DeviceConfigurationIsImmutable := by
  intro s t c hinv hc h
  rcases step_cfg h with hcfg | habs
  · exact hcfg.trans hc
  · obtain ⟨-, -, -, hnone, -, -⟩ := hinv.absentNothing habs
    simp [hnone] at hc

end Sys2Proof.Safety
end

/-! The obligations of `10_state`: who writes the capture registers (R21), what a record's effect depends on (R24), the
bytes of CR0 and CR1 (R26), the state after reset (R30) and the output ports (R31). -/

namespace Sys2Proof.Safety

open Sys2Proof.Machine

/-! ## A record at the port -/

/-- A record captures into one register, or passes; which of the two its tag says, the same for every state. -/
theorem exec_decode_cases (r : Record) :
    (∃ c, recTag r = capTag c ∧ ∀ s, exec (decode r) s = .next (capture c (recData r) s)) ∨
    ((∀ c, recTag r ≠ capTag c) ∧ ∀ s, exec (decode r) s = .next s) := by
  by_cases hcap : ∃ c, recTag r = capTag c
  · obtain ⟨c, hc⟩ := hcap
    refine .inl ⟨c, hc, fun s => ?_⟩
    rw [decode, hc]
    cases c <;> rfl
  · have hne : ∀ c, recTag r ≠ capTag c := fun c hc => hcap ⟨c, hc⟩
    refine .inr ⟨hne, fun s => ?_⟩
    have hh : recTag r ≠ 0x0C := hne .hsb
    have hm : recTag r ≠ 0x0D := hne .msb
    have hl : recTag r ≠ 0x0E := hne .lsb
    have hs : recTag r ≠ 0x0F := hne .sr
    rw [decode, exec_decodeTagged, if_neg hh, if_neg hm, if_neg hl, if_neg hs]

/-- A record that stands first at the port is taken and executed. -/
theorem step_of_record {s : State} {r : Record} {rest : List PortEvent} (ht : s.tfd = true)
    (hi : s.input = .record r :: rest) : step s = exec (decode r) (takeInput rest s) := by
  rw [step_of_tfd ht]
  unfold portStep
  rw [hi]

/-! ## What leaves the 36 bits alone -/

theorem samplePort_sameBlock (p : Port) (s : State) : SameBlock (samplePort p s) s := by
  rw [samplePort_frame]
  constructor <;> rfl

theorem completeXfer_sameBlock (x : Xfer) (s : State) : SameBlock (completeXfer x s) s := by
  rw [completeXfer, advanceHost_frame]
  constructor <;> rfl

theorem failXfer_sameBlock (s : State) : SameBlock (failXfer s) s := by
  rw [failXfer_frame]
  constructor <;> rfl

theorem startOp_sameBlock {op : HostOp} {s t : State} (h : startOp op s = .next t) : SameBlock t s := by
  rw [startOp_frame h]
  constructor <;> rfl

/-- No act of the host touches the block. -/
theorem hostAct_sameBlock {s t : State} (hn : busRequest s.phase = none) (h : hostAct s = .next t) : SameBlock t s := by
  rcases hostAct_cases hn h with ⟨_, rfl⟩ | ⟨_, rfl⟩ | ⟨_, _, rfl⟩ | ⟨_, _, _, _, hop⟩
  · constructor <;> rfl
  · constructor <;> rfl
  · exact .refl _
  · exact (startOp_sameBlock hop).trans (by constructor <;> rfl)

/-- No move of the environment touches the block: what it sends is still to be accepted at the port. -/
theorem envStep_sameBlock {s t : State} (h : envStep s = .next t) : SameBlock t s := by
  rcases envStep_cases h with ⟨_, _, rfl⟩ | ⟨_, _, _, rfl⟩ | ⟨_, _, _, _, _, _, rfl⟩ | ⟨_, _, _, _, rfl⟩ |
    ⟨_, _, _, rfl⟩ | ⟨hn, _, _, hact⟩
  · constructor <;> rfl
  · exact (samplePort_sameBlock _ _).trans (by constructor <;> rfl)
  · exact (completeXfer_sameBlock _ _).trans (by constructor <;> rfl)
  · exact (failXfer_sameBlock _).trans (by constructor <;> rfl)
  · exact .refl _
  · exact hostAct_sameBlock hn hact

theorem readX_of_sameBlock {s t : State} (h : SameBlock s t) (c : Cap) : readX c s = readX c t := by
  cases c with
  | hsb => exact h.x0
  | msb => exact h.x1
  | lsb => exact h.x2
  | sr => exact h.x3

/-! ## The writer of a capture register -/

theorem readX_capture_same (c : Cap) (d : Byte) (s : State) : readX c (capture c d s) = d := by cases c <;> rfl

theorem readX_capture_ne {c c' : Cap} (h : c' ≠ c) (d : Byte) (s : State) :
    readX c' (capture c d s) = readX c' s := by
  have hmark : readX c' (markCaptured c (writeX c d s)) = readX c' (writeX c d s) := by cases c' <;> simp [readX]
  exact hmark.trans (readX_writeX_ne c c' d s h)

/-- A host without an instance leaves the contents of the capture registers as they are. -/
theorem absentStep_readX {s t : State} (h : absentStep s = .next t) (c : Cap) : readX c t = readX c s := by
  rw [absentStep_frame h]
  cases c <;> rfl

/-- What a step can do to a capture register, the reset event apart: nothing, or store the data byte of its own record. -/
theorem step_readX {s t : State} (h : step s = .next t) :
    (∃ rest, s.input = .reset :: rest) ∨
    ∀ c, readX c t = readX c s ∨ ∃ rest, s.input = .record (mkRecord (capTag c) (readX c t)) :: rest := by
  rcases step_next h with ⟨ht, -⟩ | ⟨-, -, habs⟩
  case inr => exact .inr fun c => .inl (absentStep_readX habs c)
  cases hi : s.input with
  | nil =>
    rw [step_of_empty ht hi] at h
    exact .inr fun c => .inl (readX_of_sameBlock (envStep_sameBlock h) c)
  | cons e rest =>
    cases e with
    | reset => exact .inl ⟨rest, rfl⟩
    | sample p =>
      rw [step_of_sample ht hi] at h
      cases h
      exact .inr fun c => .inl (readX_of_sameBlock (samplePort_sameBlock p (takeInput rest s)) c)
    | record r =>
      rw [step_of_record ht hi] at h
      refine .inr fun c => ?_
      rcases exec_decode_cases r with ⟨c', htag, hcap⟩ | ⟨-, hpass⟩
      · rw [hcap] at h
        cases h
        by_cases hc : c = c'
        · subst hc
          rw [readX_capture_same, ← htag, mkRecord_recTag_recData]
          exact .inr ⟨rest, rfl⟩
        · exact .inl (readX_capture_ne hc (recData r) (takeInput rest s))
      · rw [hpass] at h
        cases h
        exact .inl rfl

/-- Settles O18: the four registers of `step_readX`, under their tags. -/
theorem captureRegisterHasOneWriter : Obligations.CaptureRegisterHasOneWriter := by
  intro s t h
  exact (step_readX h).imp_right fun hx => ⟨hx .hsb, hx .msb, hx .lsb, hx .sr⟩

/-! ## The block and the record alone -/

theorem sameBlock_takeInput {s s' : State} (h : SameBlock s s') (rest rest' : List PortEvent) :
    SameBlock (takeInput rest s) (takeInput rest' s') := ⟨h.x0, h.x1, h.x2, h.x3, h.v0, h.v1, h.v2, h.v3⟩

/-- A capture reads nothing but the 36 bits. -/
theorem sameBlock_capture {s s' : State} (h : SameBlock s s') (c : Cap) (d : Byte) :
    SameBlock (capture c d s) (capture c d s') := by
  obtain ⟨hx0, hx1, hx2, hx3, hv0, hv1, hv2, hv3⟩ := h
  cases c with
  | hsb => exact ⟨rfl, hx1, hx2, hx3, rfl, hv1, hv2, hv3⟩
  | msb => exact ⟨hx0, rfl, hx2, hx3, rfl, rfl, hv2, hv3⟩
  | lsb => exact ⟨hx0, hx1, rfl, hx3, rfl, rfl, rfl, hv3⟩
  | sr => exact ⟨hx0, hx1, hx2, rfl, hv0, hv1, hv2, rfl⟩

/-- Settles O19: both states take the same branch of `exec_decode_cases`, and a capture and a pass keep equal blocks equal. -/
theorem blockIgnoresItsEnvironment : Obligations.BlockIgnoresItsEnvironment := by
  intro s s' r rest rest' hs ht ht' hi hi'
  have htaken : SameBlock (takeInput rest s) (takeInput rest' s') := sameBlock_takeInput hs rest rest'
  rw [step_of_record ht hi, step_of_record ht' hi']
  rcases exec_decode_cases r with ⟨c, -, hcap⟩ | ⟨-, hpass⟩
  · exact ⟨_, _, hcap _, hcap _, sameBlock_capture htaken c (recData r)⟩
  · exact ⟨_, _, hpass _, hpass _, htaken⟩

/-! ## The byte of CR1 -/

theorem cr1Byte_eq_or (tc : TcType) : cr1Byte tc = 0x20 ||| tcCode tc := rfl

@[simp] theorem cr1Selector_cr1Byte (tc : TcType) : cr1Selector (cr1Byte tc) = 2 := by cases tc <;> rfl

@[simp] theorem cr1Type_cr1Byte (tc : TcType) : cr1Type (cr1Byte tc) = some tc := by cases tc <;> rfl

@[simp] theorem tcOfCode_tcCode (tc : TcType) : tcOfCode (tcCode tc).toNat = some tc := by cases tc <;> rfl

theorem tcCode_toNat_le (tc : TcType) : (tcCode tc).toNat ≤ 7 := by cases tc <;> decide

/-- The type code lies below the selector, so bit 7 stays clear. -/
theorem cr1Byte_getLsbD_seven (tc : TcType) : (cr1Byte tc).getLsbD 7 = false := by cases tc <;> rfl

/-- Settles O40, field by field. -/
theorem cr1ByteFields : Obligations.Cr1ByteFields := fun tc =>
  ⟨cr1Byte_eq_or tc, cr1Byte_getLsbD_seven tc, cr1Selector_cr1Byte tc, cr1Type_cr1Byte tc, tcOfCode_tcCode tc,
    tcCode_toNat_le tc⟩

/-! ## The host's program lines and transactions -/

/-- An idle host with nothing of the outside to come begins its next program line. -/
theorem step_of_line {s : State} {op : HostOp} {ops : List HostOp} (ht : s.tfd = true) (hi : s.input = [])
    (hp : s.phase = .idle) (he : outsideNext s.events = false) (htodo : s.todo = op :: ops) :
    step s = startOp op { s with todo := ops } := by
  have hnone : busRequest s.phase = none := by rw [hp]; rfl
  rw [step_of_empty ht hi, envStep_of_host hnone he]
  unfold hostAct
  rw [hp, htodo]

/-- The transaction that is due completes when its reply comes first. -/
theorem step_of_reply {s : State} {tx : Byte × Byte} {rx0 rx1 : Byte} {ev : List Event} (ht : s.tfd = true)
    (hi : s.input = []) (htx : busRequest s.phase = some tx) (he : s.events = .reply rx0 rx1 :: ev) :
    step s = .next (completeXfer ⟨tx.1, tx.2, rx0, rx1⟩ { s with events := ev }) := by
  rw [step_of_empty ht hi, envStep_of_reply htx he]

theorem writeTag_getLsbD_seven (r : Reg) : (writeTag r).getLsbD 7 = true := by cases r <;> rfl

/-- A tag with the write flag set captures nothing. -/
theorem ne_capTag_of_write {tag : Byte} (h : tag.getLsbD 7 = true) (c : Cap) : tag ≠ capTag c := by
  rintro rfl
  cases c <;> simp [capTag] at h

/-- A record of a write that stands first at the port is taken and changes nothing else. -/
theorem step_of_writeRecord {s : State} {tag d : Byte} {rest : List PortEvent} (ht : s.tfd = true)
    (hi : s.input = .record (mkRecord tag d) :: rest) (hw : tag.getLsbD 7 = true) :
    step s = .next (takeInput rest s) := by
  rw [step_of_record ht hi]
  rcases exec_decode_cases (mkRecord tag d) with ⟨c, htag, -⟩ | ⟨-, hpass⟩
  · rw [recTag_mkRecord] at htag
    exact absurd htag (ne_capTag_of_write hw c)
  · exact hpass _

/-- The host's sequences do not look at the port. -/
theorem takeInput_advanceHost (rest : List PortEvent) (b : Byte) (s : State) :
    takeInput rest (advanceHost b s) = advanceHost b (takeInput rest s) := by
  simp only [advanceHost, takeInput_phase]
  cases s.phase <;> rfl

/-- A write that completes and its record's acceptance, two steps: the transaction is recorded, the block is as before, and the
host is at its next act. -/
theorem run_of_write {s : State} {tx : Byte × Byte} {rx0 rx1 : Byte} {ev : List Event} (k : Nat) (ht : s.tfd = true)
    (hi : s.input = []) (htx : busRequest s.phase = some tx) (hw : tx.1.getLsbD 7 = true)
    (he : s.events = .reply rx0 rx1 :: ev) :
    run (k + 2) s = run k (advanceHost rx1 { s with events := ev, bus := s.bus ++ [⟨tx.1, tx.2, rx0, rx1⟩] }) := by
  rw [run_succ_of_next (k + 1) (step_of_reply ht hi htx he)]
  have hinput : (completeXfer ⟨tx.1, tx.2, rx0, rx1⟩ { s with events := ev }).input =
      .record (mkRecord tx.1 (xferData ⟨tx.1, tx.2, rx0, rx1⟩)) :: [] := by
    rw [completeXfer, advanceHost_frame]
    simp [hi]
  have htfd : (completeXfer ⟨tx.1, tx.2, rx0, rx1⟩ { s with events := ev }).tfd = true := by
    rw [completeXfer, advanceHost_frame]
    exact ht
  rw [run_succ_of_next k (step_of_writeRecord htfd hinput hw), completeXfer, takeInput_advanceHost]
  congr 2
  simp [takeInput, deliver, hi]

/-- The first write of `INIT` and its record. -/
theorem run_of_initCr0 {s : State} {tc : TcType} {rx0 rx1 : Byte} {ev : List Event} (k : Nat) (ht : s.tfd = true)
    (hi : s.input = []) (hp : s.phase = .initCr0 tc) (he : s.events = .reply rx0 rx1 :: ev) :
    run (k + 2) s = run k { s with
      phase := .initCr1 tc, events := ev, bus := s.bus ++ [⟨writeTag .cr0, Config.cr0Continuous, rx0, rx1⟩] } := by
  have htx : busRequest s.phase = some (writeTag .cr0, Config.cr0Continuous) := by rw [hp]; rfl
  rw [run_of_write k ht hi htx (writeTag_getLsbD_seven _) he, advanceHost, hp]

/-- The second write of `INIT`, which makes the host Ready, and its record. -/
theorem run_of_initCr1 {s : State} {tc : TcType} {rx0 rx1 : Byte} {ev : List Event} (k : Nat) (ht : s.tfd = true)
    (hi : s.input = []) (hp : s.phase = .initCr1 tc) (he : s.events = .reply rx0 rx1 :: ev) :
    run (k + 2) s = run k (giveBack .constructed { s with
      phase := .idle, mode := .ready, events := ev, bus := s.bus ++ [⟨writeTag .cr1, cr1Byte tc, rx0, rx1⟩] }) := by
  have htx : busRequest s.phase = some (writeTag .cr1, cr1Byte tc) := by rw [hp]; rfl
  rw [run_of_write k ht hi htx (writeTag_getLsbD_seven _) he, advanceHost, hp]

/-- `INIT` of a standing Uninitialized host whose two writes are answered: its line, then the write of CR0 and the write of CR1
with their records. -/
theorem run_of_init {s : State} {cfg : DeviceConfig} {ops : List HostOp} {a0 a1 b0 b1 : Byte} {ev : List Event}
    (ht : s.tfd = true) (hi : s.input = []) (hp : s.phase = .idle) (hm : s.mode = .uninitialized)
    (htodo : s.todo = .init :: ops) (hcfg : s.cfg = some cfg) (he : s.events = .reply a0 a1 :: .reply b0 b1 :: ev) :
    run 5 s = .next { s with
      phase := .idle, todo := ops, mode := .ready, events := ev,
      bus := s.bus ++ [⟨writeTag .cr0, Config.cr0Continuous, a0, a1⟩, ⟨writeTag .cr1, cr1Byte cfg.tcType, b0, b1⟩],
      returned := s.returned ++ [.constructed] } := by
  have hline : step s = .next { s with todo := ops, phase := .initCr0 cfg.tcType } := by
    rw [step_of_line ht hi hp (by rw [he]; rfl) htodo, startOp, startInit]
    simp only [hm, hcfg]
  refine Eq.trans (run_succ_of_next 4 hline) ?_
  refine Eq.trans (run_of_initCr0 2 ht hi rfl he) ?_
  refine Eq.trans (run_of_initCr1 0 ht hi rfl rfl) ?_
  simp [giveBack]

/-! ## What the chip has been told -/

/-- A transaction that writes a register is the last write to it. -/
@[simp] theorem lastWritten_append_same (r : Reg) (bus : List Xfer) (b rx0 rx1 : Byte) :
    lastWritten r (bus ++ [⟨writeTag r, b, rx0, rx1⟩]) = some b := by
  simp [lastWritten]

/-- A transaction under another tag leaves the last write to a register as it was. -/
theorem lastWritten_append_ne {r : Reg} {tag : Byte} (h : tag ≠ writeTag r) (bus : List Xfer) (b rx0 rx1 : Byte) :
    lastWritten r (bus ++ [⟨tag, b, rx0, rx1⟩]) = lastWritten r bus := by
  simp [lastWritten, h]

/-- Settles O48: CR0 was last written by the first transaction of `run_of_init`, CR1 by the second. -/
theorem initConfiguresTheChip : Obligations.InitConfiguresTheChip := by
  intro s cfg ops a0 a1 b0 b1 ev ht hi hp hm htodo hcfg he
  refine ⟨_, run_of_init ht hi hp hm htodo hcfg he, ?_⟩
  have hne : writeTag .cr1 ≠ writeTag .cr0 := by decide
  rw [List.append_cons, lastWritten_append_ne hne, lastWritten_append_same, lastWritten_append_same]
  exact ⟨rfl, cr1Type_cr1Byte cfg.tcType, congrArg some (cr1Selector_cr1Byte cfg.tcType)⟩

/-! ## Reset -/

/-- Settles O22: each field of the launch state is given, whatever the registers and the configuration are. -/
theorem resetLeavesNothingUsable : Obligations.ResetLeavesNothingUsable := fun _ _ =>
  ⟨rfl, rfl, rfl, rfl, rfl, rfl, rfl, rfl, rfl, rfl, rfl, rfl, rfl, rfl, rfl⟩

/-- The host's invariant where no instance stands and nothing has been done. -/
theorem hostInv_of_absent {t : State} (hm : t.mode = .absent) (hh : t.handle = false) (ht : t.tfd = false)
    (hp : t.phase = .idle) (hc : t.cfg = none) (hb : t.bus = []) (hr : t.returned = []) : HostInv t where
  together := hh.trans ht.symm
  absentNothing _ := ⟨hh, ht, hp, hc, hb, hr⟩
  stands h := by simp [hm] at h
  readyOwns h := by simp [hm] at h
  deadReleased h := by simp [hm] at h
  noTfd _ := .inr hm
  busOwned h := by simp [hp, busRequest] at h
  initOwns h := by simp [hp, inInit] at h
  initType _ _ _ h := by simp [hp] at h
  queryReady h := by simp [hp, inQuery] at h
  writeLegal _ _ h := by simp [hp] at h
  checkFirst h := by simp [hr] at h

theorem hostInv_unbuilt (rx : Cap → Byte) : HostInv (State.unbuilt rx) :=
  hostInv_of_absent rfl rfl rfl rfl rfl rfl rfl

theorem hostInv_launch (rx : Cap → Byte) (cfg : DeviceConfig) : HostInv (State.launch rx cfg) := by
  have hp : (State.launch rx cfg).phase = .idle := rfl
  have hr : (State.launch rx cfg).returned = [] := rfl
  apply hostInv_of_standing (.inl rfl) rfl rfl rfl
  · simp [hr]
  · exact fun _ => rfl
  · simp [hp]
  · simp [hp, inQuery]
  · simp [hp]

/-- Settles O55: `State.reset` is a launch state. -/
theorem hostInvariantAtReset : Obligations.HostInvariantAtReset :=
  ⟨hostInv_launch _ _, fun rx => ⟨hostInv_unbuilt rx, hostInv_launch rx⟩⟩

/-! ## The output ports -/

/-- An idle host with nothing of the outside to come samples a port for its program line. -/
theorem step_of_sampleLine {s : State} {p : Port} {ops : List HostOp} (ht : s.tfd = true) (hi : s.input = [])
    (hp : s.phase = .idle) (he : outsideNext s.events = false) (htodo : s.todo = .sample p :: ops) :
    step s = .next (samplePort p { s with todo := ops }) := step_of_line ht hi hp he htodo

theorem useT_of_ok {s : State} (h : portTOk s = true) : useT s = portT s := if_pos h

theorem useF_of_ok {s : State} (h : portFOk s = true) : useF s = portF s := if_pos h

theorem useFcnt_of_ok {s : State} (h : portFOk s = true) : useFcnt s = portFcnt s := if_pos h

theorem samplePort_t_of_ok {s : State} (h : portTOk s = true) :
    samplePort .t s = { s with returned := s.returned ++ [.sampledT (portT s)], draws := s.draws + 1 } := by
  rw [samplePort, useT_of_ok h]
  rfl

theorem samplePort_f_of_ok {s : State} (h : portFOk s = true) :
    samplePort .f s = { s with returned := s.returned ++ [.sampledF (portF s)], draws := s.draws + 1 } := by
  rw [samplePort, useF_of_ok h]
  rfl

theorem samplePort_fcnt_of_ok {s : State} (h : portFOk s = true) :
    samplePort .fcnt s = { s with returned := s.returned ++ [.sampledFcnt (portFcnt s)], draws := s.draws + 1 } := by
  rw [samplePort, useFcnt_of_ok h]
  rfl

/-- Settles O53: the line's step is the sampling; three ports are used under their OK bit, and the other three have none. -/
theorem sampleReadsThePort : Obligations.SampleReadsThePort := by
  intro s ops ht hi hp he
  have hstep : ∀ p, s.todo = .sample p :: ops → step s = .next (samplePort p { s with todo := ops }) :=
    fun p htodo => step_of_sampleLine ht hi hp he htodo
  refine ⟨fun htodo hok => ?_, fun htodo hok => ?_, fun htodo hok => ?_, hstep .tOk, hstep .fOk, hstep .inReady⟩
  · exact (hstep .t htodo).trans (congrArg _ (samplePort_t_of_ok (s := { s with todo := ops }) hok))
  · exact (hstep .f htodo).trans (congrArg _ (samplePort_f_of_ok (s := { s with todo := ops }) hok))
  · exact (hstep .fcnt htodo).trans (congrArg _ (samplePort_fcnt_of_ok (s := { s with todo := ops }) hok))

end Sys2Proof.Safety

/-! The obligations of `20_memory`: the tags of the register map (R41), a read and a write that complete (R42, R43), and one
record for each completed transaction (R53). -/

namespace Sys2Proof.Safety

open Sys2Proof.Machine

/-! ## The recorded transactions -/

@[simp] theorem samplePort_bus (p : Port) (s : State) : (samplePort p s).bus = s.bus := by rw [samplePort_frame]

@[simp] theorem advanceHost_bus (rx1 : Byte) (s : State) : (advanceHost rx1 s).bus = s.bus := by rw [advanceHost_frame]

@[simp] theorem advanceHost_input (rx1 : Byte) (s : State) : (advanceHost rx1 s).input = s.input := by
  rw [advanceHost_frame]

@[simp] theorem completeXfer_bus (x : Xfer) (s : State) : (completeXfer x s).bus = s.bus ++ [x] := by simp [completeXfer]

@[simp] theorem completeXfer_input (x : Xfer) (s : State) :
    (completeXfer x s).input = s.input ++ [.record (mkRecord x.tx0 (xferData x))] := by simp [completeXfer]

@[simp] theorem failXfer_bus (s : State) : (failXfer s).bus = s.bus := by rw [failXfer_frame]

@[simp] theorem finishTemp_bus (s : State) : (finishTemp s).bus = s.bus := rfl

@[simp] theorem finishFaults_bus (s : State) : (finishFaults s).bus = s.bus := rfl

theorem startOp_bus {op : HostOp} {s t : State} (h : startOp op s = .next t) : t.bus = s.bus := by rw [startOp_frame h]

theorem absentStep_bus {s t : State} (h : absentStep s = .next t) : t.bus = s.bus := by rw [absentStep_frame h]

/-- No act of the host records a transaction. -/
theorem hostAct_bus {s t : State} (hn : busRequest s.phase = none) (h : hostAct s = .next t) : t.bus = s.bus := by
  rcases hostAct_cases hn h with ⟨_, rfl⟩ | ⟨_, rfl⟩ | ⟨_, _, rfl⟩ | ⟨_, _, _, _, hop⟩
  · simp
  · simp
  · rfl
  · exact (startOp_bus hop :)

/-- A move of the environment records no transaction, or completes the one that is due. -/
theorem envStep_bus {s t : State} (h : envStep s = .next t) :
    t.bus = s.bus ∨
    ∃ x ev, busRequest s.phase = some (x.tx0, x.tx1) ∧ t = completeXfer x { s with events := ev } := by
  rcases envStep_cases h with ⟨_, _, rfl⟩ | ⟨_, _, _, rfl⟩ | ⟨tx, rx0, rx1, ev, htx, _, rfl⟩ | ⟨_, _, _, _, rfl⟩ |
    ⟨_, _, _, rfl⟩ | ⟨hn, _, _, hact⟩
  · exact .inl (by simp)
  · exact .inl (by simp)
  · exact .inr ⟨⟨tx.1, tx.2, rx0, rx1⟩, ev, htx, rfl⟩
  · exact .inl (by simp)
  · exact .inl rfl
  · exact .inl (hostAct_bus hn hact)

/-- A step records no transaction, or completes the one that is due, with nothing at the port. -/
theorem step_bus {s t : State} (h : step s = .next t) :
    t.bus = s.bus ∨
    s.input = [] ∧ ∃ x ev, busRequest s.phase = some (x.tx0, x.tx1) ∧ t = completeXfer x { s with events := ev } := by
  rcases step_cases h with ⟨_, _, _, _, _, rfl⟩ | ⟨_, _, _, rfl⟩ | ⟨_, _, rfl⟩ | ⟨_, _, _, rfl⟩ | ⟨hi, henv⟩ |
    ⟨_, _, habs⟩
  · exact .inl (by simp)
  · exact .inl (by simp)
  · exact .inl (by simp)
  · exact .inl (by simp)
  · exact (envStep_bus henv).imp_right (.intro hi)
  · exact .inl (absentStep_bus habs)

/-- Settles O45: only a completion records a transaction, and `completeXfer` puts its record behind an empty port. -/
theorem oneRecordPerCompletedTransaction : Obligations.OneRecordPerCompletedTransaction := by
  intro s t h
  rcases step_bus h with hbus | ⟨hi, x, ev, hx, rfl⟩
  · exact .inl hbus
  · exact .inr ⟨x, completeXfer_bus x _, hi, by simp [hi], hx⟩

/-! ## The register map -/

/-- The register at a read address, `sr` above the map. -/
def regOfAddr (a : Byte) : Reg :=
  match a.toNat with
  | 0 => .cr0
  | 1 => .cr1
  | 2 => .mask
  | 3 => .cjhf
  | 4 => .cjlf
  | 5 => .fth0
  | 6 => .fth1
  | 7 => .fth2
  | 8 => .fth3
  | 9 => .cjto
  | 10 => .cjth
  | 11 => .cjtl
  | 12 => .ltcbh
  | 13 => .ltcbm
  | 14 => .ltcbl
  | _ => .sr

theorem regOfAddr_regAddr (r : Reg) : regOfAddr (regAddr r) = r := by cases r <;> rfl

theorem regAddr_injective : Function.Injective regAddr := Function.LeftInverse.injective regOfAddr_regAddr

theorem regAddr_le (r : Reg) : regAddr r ≤ 0x0F := by cases r <;> decide

theorem readTag_eq_regAddr (r : Reg) : readTag r = regAddr r := by cases r <;> rfl

theorem readTag_getLsbD_seven (r : Reg) : (readTag r).getLsbD 7 = false := by cases r <;> rfl

theorem writeTag_xor_readTag (r : Reg) : writeTag r ^^^ readTag r = 0x80 := by cases r <;> rfl

theorem regWritable_iff (r : Reg) : regWritable r = true ↔ regAddr r ≤ 0x0B := by cases r <;> decide

theorem writeAddr?_eq (r : Reg) : writeAddr? r = if regAddr r ≤ 0x0B then some (regAddr r ||| 0x80) else none := by
  simp only [writeAddr?, regWritable_iff]
  rfl

/-- The read tags are the bytes up to 0x0F. -/
theorem exists_readTag_iff (t : Byte) : (∃ r, readTag r = t) ↔ t ≤ 0x0F := by
  have hback : ∀ a : Byte, a ≤ 0x0F → readTag (regOfAddr a) = a := by decide
  constructor
  · rintro ⟨r, rfl⟩
    exact (readTag_eq_regAddr r).trans_le (regAddr_le r)
  · exact fun ht => ⟨regOfAddr t, hback t ht⟩

/-- The write tags are the bytes from 0x80 to 0x8B. -/
theorem exists_writeAddr?_iff (t : Byte) : (∃ r, writeAddr? r = some t) ↔ 0x80 ≤ t ∧ t ≤ 0x8B := by
  have hforth : ∀ a : Byte, a ≤ 0x0B → 0x80 ≤ a ||| 0x80 ∧ a ||| 0x80 ≤ 0x8B := by decide
  have hback : ∀ a : Byte, 0x80 ≤ a ∧ a ≤ 0x8B → writeAddr? (regOfAddr (a &&& 0x7F)) = some a := by decide
  constructor
  · rintro ⟨r, hr⟩
    obtain ⟨hle, rfl⟩ : regAddr r ≤ 0x0B ∧ regAddr r ||| 0x80 = t := by simpa [writeAddr?_eq] using hr
    exact hforth (regAddr r) hle
  · exact fun ht => ⟨regOfAddr (t &&& 0x7F), hback t ht⟩

/-- Settles O39: the clauses of one register, the addresses through `regOfAddr`, and the bytes left over by both kinds of tag. -/
theorem tagsOfTheRegisterMap : Obligations.TagsOfTheRegisterMap := by
  refine ⟨fun r => ⟨readTag_eq_regAddr r, ?_, rfl, writeTag_xor_readTag r, regWritable_iff r, writeAddr?_eq r⟩,
    fun r q h => regAddr_injective h, fun t => ?_⟩
  · exact (exists_readTag_iff _).mp ⟨r, rfl⟩
  · rw [forall_and, ← not_exists, ← not_exists, exists_readTag_iff, exists_writeAddr?_iff]
    bv_omega

/-! ## A read and a write that complete -/

theorem xferData_of_read {tag : Byte} (h : tag.getLsbD 7 = false) (d rx0 rx1 : Byte) :
    xferData ⟨tag, d, rx0, rx1⟩ = rx1 := by
  unfold xferData
  rw [h]
  rfl

theorem xferData_of_write {tag : Byte} (h : tag.getLsbD 7 = true) (d rx0 rx1 : Byte) :
    xferData ⟨tag, d, rx0, rx1⟩ = d := by
  unfold xferData
  rw [h]
  rfl

/-- A completed read leaves an idle host, the record of its byte at the port and the byte with the caller. -/
theorem completeXfer_of_rd {s : State} {r : Reg} (hi : s.input = []) (hp : s.phase = .rd r) (rx0 rx1 : Byte) :
    completeXfer ⟨readTag r, 0x00, rx0, rx1⟩ s = { s with
      phase := .idle, bus := s.bus ++ [⟨readTag r, 0x00, rx0, rx1⟩],
      input := [.record (mkRecord (regAddr r) rx1)], returned := s.returned ++ [.readByte rx1] } := by
  rw [completeXfer, xferData_of_read (readTag_getLsbD_seven r), readTag_eq_regAddr]
  simp only [advanceHost, deliver, giveBack, hp, hi, List.nil_append]

/-- A completed write leaves an idle host and the record of the written byte at the port. -/
theorem completeXfer_of_wr {s : State} {r : Reg} {b : Byte} (hi : s.input = []) (hp : s.phase = .wr r b) (rx0 rx1 : Byte) :
    completeXfer ⟨writeTag r, b, rx0, rx1⟩ s = { s with
      phase := .idle, bus := s.bus ++ [⟨writeTag r, b, rx0, rx1⟩],
      input := [.record (mkRecord (writeTag r) b)], returned := s.returned ++ [.written] } := by
  rw [completeXfer, xferData_of_write (writeTag_getLsbD_seven r)]
  simp only [advanceHost, deliver, giveBack, hp, hi, List.nil_append]

/-- Settles O41: the reply completes the read that is due, as `completeXfer_of_rd` says. -/
theorem readTransactionCompletes : Obligations.ReadTransactionCompletes := by
  intro s r rx0 rx1 ev ht hi hp he
  have htx : busRequest s.phase = some (readTag r, 0x00) := by rw [hp]; rfl
  rw [step_of_reply ht hi htx he]
  exact congrArg _ (completeXfer_of_rd (s := { s with events := ev }) hi hp rx0 rx1)

/-- Settles O42: the reply completes the write that is due, and its record has the write flag, so it captures nothing. -/
theorem writeTransactionCompletes : Obligations.WriteTransactionCompletes := by
  intro s r b rx0 rx1 ev ht hi hp he
  have htx : busRequest s.phase = some (writeTag r, b) := by rw [hp]; rfl
  refine ⟨_, ?_, rfl, step_of_writeRecord ht rfl (writeTag_getLsbD_seven r)⟩
  rw [step_of_reply ht hi htx he]
  exact congrArg _ (completeXfer_of_wr (s := { s with events := ev }) hi hp rx0 rx1)

end Sys2Proof.Safety

/-! The obligations of `30_encoding`: decode and encode agree (R60, R61, R65), the tag alone selects the row (R63), and the
step is the pseudocode of R68. -/

namespace Sys2Proof.Safety

open Sys2Proof.Machine

/-! ## The decoder on a tag made of its fields -/

theorem decodeTagged_read (a : BitVec 4) : decodeTagged (mkTag 0#1 0#3 a) = decodeRead a := by
  funext d
  simp [decodeTagged]

theorem decodeTagged_write (a : BitVec 4) : decodeTagged (mkTag 1#1 0#3 a) = decodeWrite a := by
  funext d
  simp [decodeTagged]

theorem decodeTagged_rsvdRd10 (a : BitVec 4) : decodeTagged (mkTag 0#1 1#3 a) = .rsvdRd10 a := by
  funext d
  simp [decodeTagged]

theorem decodeTagged_rsvdWr90 (a : BitVec 4) : decodeTagged (mkTag 1#1 1#3 a) = .rsvdWr90 a := by
  funext d
  simp [decodeTagged]

theorem zField_ne_of_two_le {z : BitVec 3} (h : 2#3 ≤ z) : z ≠ 0#3 ∧ z ≠ 1#3 := by
  revert z
  decide

theorem zField_ne_of_four_le {z : BitVec 3} (h : 4#3 ≤ z) : z ≠ 0#3 ∧ z ≠ 1#3 ∧ ¬ z ≤ 3#3 := by
  revert z
  decide

theorem decodeTagged_rsvdRd20 {z : BitVec 3} (hlo : 2#3 ≤ z) (hhi : z ≤ 3#3) (a : BitVec 4) :
    decodeTagged (mkTag 0#1 z a) = .rsvdRd20 z a := by
  funext d
  simp [decodeTagged, zField_ne_of_two_le hlo, hhi]

theorem decodeTagged_rsvdWrA0 {z : BitVec 3} (hlo : 2#3 ≤ z) (hhi : z ≤ 3#3) (a : BitVec 4) :
    decodeTagged (mkTag 1#1 z a) = .rsvdWrA0 z a := by
  funext d
  simp [decodeTagged, zField_ne_of_two_le hlo, hhi]

theorem decodeTagged_rsvdRd40 {z : BitVec 3} (h : 4#3 ≤ z) (a : BitVec 4) :
    decodeTagged (mkTag 0#1 z a) = .rsvdRd40 z a := by
  funext d
  simp [decodeTagged, zField_ne_of_four_le h]

theorem decodeTagged_rsvdWrC0 {z : BitVec 3} (h : 4#3 ≤ z) (a : BitVec 4) :
    decodeTagged (mkTag 1#1 z a) = .rsvdWrC0 z a := by
  funext d
  simp [decodeTagged, zField_ne_of_four_le h]

/-- The write images of the four read-only registers (`30_encoding` R63, C7). -/
theorem decodeWrite_of_readOnly {a : BitVec 4} (h : 12#4 ≤ a) : decodeWrite a = .rsvdWro a := by
  have hfour : ∀ a : BitVec 4, 12#4 ≤ a → a = 12 ∨ a = 13 ∨ a = 14 ∨ a = 15 := by decide
  rcases hfour a h with rfl | rfl | rfl | rfl <;> rfl

/-! ## Encode, then decode -/

/-- The tag of a well-formed record leads the decoder back to its row. -/
theorem decodeTagged_tag_data {i : Instr} (h : i.wellFormed = true) : decodeTagged i.tag i.data = i := by
  cases i
  case rsvdWro a d =>
    have ha : 12#4 ≤ a := by simpa [Instr.wellFormed] using h
    exact congrFun ((decodeTagged_write a).trans (decodeWrite_of_readOnly ha)) d
  case rsvdRd10 a d => exact congrFun (decodeTagged_rsvdRd10 a) d
  case rsvdRd20 z a d =>
    obtain ⟨hlo, hhi⟩ : 2#3 ≤ z ∧ z ≤ 3#3 := by simpa [Instr.wellFormed] using h
    exact congrFun (decodeTagged_rsvdRd20 hlo hhi a) d
  case rsvdRd40 z a d =>
    have hz : 4#3 ≤ z := by simpa [Instr.wellFormed] using h
    exact congrFun (decodeTagged_rsvdRd40 hz a) d
  case rsvdWr90 a d => exact congrFun (decodeTagged_rsvdWr90 a) d
  case rsvdWrA0 z a d =>
    obtain ⟨hlo, hhi⟩ : 2#3 ≤ z ∧ z ≤ 3#3 := by simpa [Instr.wellFormed] using h
    exact congrFun (decodeTagged_rsvdWrA0 hlo hhi a) d
  case rsvdWrC0 z a d =>
    have hz : 4#3 ≤ z := by simpa [Instr.wellFormed] using h
    exact congrFun (decodeTagged_rsvdWrC0 hz a) d
  all_goals
    rw [Instr.tag, Instr.data]
    rfl

/-- Settles O12: the word is the record of the tag and the data byte, and the tag leads back to the row. -/
theorem decodeOfEncodeIsTheRecord : Obligations.DecodeOfEncodeIsTheRecord := by
  intro i h
  rw [encode, decode_mkRecord, decodeTagged_tag_data h]

/-! ## The step of R68 -/

theorem SameBlock.symm {s t : State} (h : SameBlock s t) : SameBlock t s :=
  ⟨h.x0.symm, h.x1.symm, h.x2.symm, h.x3.symm, h.v0.symm, h.v1.symm, h.v2.symm, h.v3.symm⟩

/-- R68's test `tag[7:2] == 0b000011` finds the four capture tags, and `tag[1:0]` names the register. -/
theorem eq_capTag_of_captureBits {t : Byte} (h : t.extractLsb' 2 6 = 0b000011#6) :
    t = capTag (capOfIndex (t.extractLsb' 0 2)) := by
  revert t
  decide

/-- On a capture tag R68 writes its register and the flags as the capture does. -/
theorem ruleStep_of_capTag {r : Record} {c : Cap} (h : recTag r = capTag c) (s : State) :
    ruleStep r s = capture c (recData r) s := by
  have htag : r.extractLsb' 8 8 = capTag c := h
  simp only [ruleStep, htag]
  cases c <;> rfl

/-- On every other tag R68 passes. -/
theorem ruleStep_of_ne_capTag {r : Record} (h : ∀ c, recTag r ≠ capTag c) (s : State) : ruleStep r s = s :=
  if_neg fun hbits => h _ (eq_capTag_of_captureBits hbits)

/-- The meaning of the decoded record is R68's step. -/
theorem exec_decode_eq_ruleStep (r : Record) (s : State) : exec (decode r) s = .next (ruleStep r s) := by
  rcases exec_decode_cases r with ⟨c, htag, hcap⟩ | ⟨hne, hpass⟩
  · rw [hcap, ruleStep_of_capTag htag]
  · rw [hpass, ruleStep_of_ne_capTag hne]

/-- Settles O11: a record at the port runs R68's step, and of the other steps a reset event alone touches the block. -/
theorem stepIsRuleR68 : Obligations.StepIsRuleR68 := by
  refine ⟨fun s r rest ht hi => ?_, fun s t ht hrec hreset h => ?_⟩
  · rw [step_of_record ht hi, exec_decode_eq_ruleStep, takeInput]
  · rcases step_cases h with ⟨r, rest, _, hi, _, _⟩ | ⟨r, rest, hi, _⟩ | ⟨rest, hi, _⟩ | ⟨p, rest, _, rfl⟩ | ⟨_, henv⟩ |
      ⟨hno, _, _⟩
    · exact absurd hi (hrec r rest)
    · exact absurd hi (hrec r rest)
    · exact absurd hi (hreset rest)
    · exact ((samplePort_sameBlock p _).trans (sameBlock_takeInput (.refl s) rest s.input)).symm
    · exact (envStep_sameBlock henv).symm
    · simp [ht] at hno

/-! ## Decode, then encode -/

/-- What the records of one tag have in common: all are well-formed, of that tag and of one row, and hold their data byte. -/
structure TagRow (t : Byte) (f : Byte → Instr) : Prop where
  wellFormed : ∀ d, (f d).wellFormed = true
  tag : ∀ d, (f d).tag = t
  data : ∀ d, (f d).data = d
  mnemonic : ∀ d d', (f d).mnemonic = (f d').mnemonic
  rowMatch : ∀ d d', (f d).rowMatch = (f d').rowMatch

/-- Each of the sixteen read tags is a row of its own. -/
theorem tagRow_decodeRead (a : BitVec 4) : TagRow (mkTag 0#1 0#3 a) (decodeRead a) := by
  obtain ⟨n⟩ := a
  fin_cases n <;> constructor <;> intros <;> rfl

/-- Each of the twelve write tags is a row of its own, and the last four share one that carries A. -/
theorem tagRow_decodeWrite (a : BitVec 4) : TagRow (mkTag 1#1 0#3 a) (decodeWrite a) := by
  obtain ⟨n⟩ := a
  fin_cases n <;> constructor <;> intros <;> rfl

/-- The decoder makes one row of every tag, by W and the four ranges of Z; of a reserved row only the range is to be checked. -/
theorem tagRow_decodeTagged (t : Byte) : TagRow t (decodeTagged t) := by
  have hw : ∀ w : BitVec 1, w = 0#1 ∨ w = 1#1 := by decide
  have hz : ∀ z : BitVec 3, z = 0#3 ∨ z = 1#3 ∨ (2#3 ≤ z ∧ z ≤ 3#3) ∨ 4#3 ≤ z := by decide
  rw [← mkTag_fields t]
  generalize tagA t = a
  generalize tagZ t = z
  generalize tagW t = w
  rcases hw w with rfl | rfl <;> rcases hz z with rfl | rfl | ⟨hlo, hhi⟩ | hge
  · rw [decodeTagged_read]
    exact tagRow_decodeRead a
  · rw [decodeTagged_rsvdRd10]
    constructor <;> intros <;> rfl
  · rw [decodeTagged_rsvdRd20 hlo hhi]
    exact ⟨fun _ => by simp [Instr.wellFormed, hlo, hhi], fun _ => rfl, fun _ => rfl, fun _ _ => rfl, fun _ _ => rfl⟩
  · rw [decodeTagged_rsvdRd40 hge]
    exact ⟨fun _ => by simp [Instr.wellFormed, hge], fun _ => rfl, fun _ => rfl, fun _ _ => rfl, fun _ _ => rfl⟩
  · rw [decodeTagged_write]
    exact tagRow_decodeWrite a
  · rw [decodeTagged_rsvdWr90]
    constructor <;> intros <;> rfl
  · rw [decodeTagged_rsvdWrA0 hlo hhi]
    exact ⟨fun _ => by simp [Instr.wellFormed, hlo, hhi], fun _ => rfl, fun _ => rfl, fun _ _ => rfl, fun _ _ => rfl⟩
  · rw [decodeTagged_rsvdWrC0 hge]
    exact ⟨fun _ => by simp [Instr.wellFormed, hge], fun _ => rfl, fun _ => rfl, fun _ _ => rfl, fun _ _ => rfl⟩

theorem decode_wellFormed (r : Record) : (decode r).wellFormed = true := (tagRow_decodeTagged _).wellFormed _

theorem encode_decode (r : Record) : encode (decode r) = r := by
  have hrow := tagRow_decodeTagged (recTag r)
  rw [encode, decode, hrow.tag, hrow.data, mkRecord_recTag_recData]

/-- Settles O13: the record decoded from a word has the word's tag and its data byte. -/
theorem encodeOfDecodeIsTheWord : Obligations.EncodeOfDecodeIsTheWord :=
  fun r => ⟨decode_wellFormed r, encode_decode r⟩

/-! ## The rows of the opcode table -/

/-- The word of a well-formed record lies in its row: the law of each row, put together. -/
theorem rowEncoding (i : Instr) : Laws.RowEncoding.Statement i := by
  cases i with
  | rdCr0 d => exact Laws.RowEncoding.rdCr0 d
  | rdCr1 d => exact Laws.RowEncoding.rdCr1 d
  | rdMask d => exact Laws.RowEncoding.rdMask d
  | rdCjhf d => exact Laws.RowEncoding.rdCjhf d
  | rdCjlf d => exact Laws.RowEncoding.rdCjlf d
  | rdFth0 d => exact Laws.RowEncoding.rdFth0 d
  | rdFth1 d => exact Laws.RowEncoding.rdFth1 d
  | rdFth2 d => exact Laws.RowEncoding.rdFth2 d
  | rdFth3 d => exact Laws.RowEncoding.rdFth3 d
  | rdCjto d => exact Laws.RowEncoding.rdCjto d
  | rdCjth d => exact Laws.RowEncoding.rdCjth d
  | rdCjtl d => exact Laws.RowEncoding.rdCjtl d
  | capLtcbh d => exact Laws.RowEncoding.capLtcbh d
  | capLtcbm d => exact Laws.RowEncoding.capLtcbm d
  | capLtcbl d => exact Laws.RowEncoding.capLtcbl d
  | capSr d => exact Laws.RowEncoding.capSr d
  | wrCr0 d => exact Laws.RowEncoding.wrCr0 d
  | wrCr1 d => exact Laws.RowEncoding.wrCr1 d
  | wrMask d => exact Laws.RowEncoding.wrMask d
  | wrCjhf d => exact Laws.RowEncoding.wrCjhf d
  | wrCjlf d => exact Laws.RowEncoding.wrCjlf d
  | wrFth0 d => exact Laws.RowEncoding.wrFth0 d
  | wrFth1 d => exact Laws.RowEncoding.wrFth1 d
  | wrFth2 d => exact Laws.RowEncoding.wrFth2 d
  | wrFth3 d => exact Laws.RowEncoding.wrFth3 d
  | wrCjto d => exact Laws.RowEncoding.wrCjto d
  | wrCjth d => exact Laws.RowEncoding.wrCjth d
  | wrCjtl d => exact Laws.RowEncoding.wrCjtl d
  | rsvdWro a d => exact Laws.RowEncoding.rsvdWro a d
  | rsvdRd10 a d => exact Laws.RowEncoding.rsvdRd10 a d
  | rsvdRd20 z a d => exact Laws.RowEncoding.rsvdRd20 z a d
  | rsvdRd40 z a d => exact Laws.RowEncoding.rsvdRd40 z a d
  | rsvdWr90 a d => exact Laws.RowEncoding.rsvdWr90 a d
  | rsvdWrA0 z a d => exact Laws.RowEncoding.rsvdWrA0 z a d
  | rsvdWrC0 z a d => exact Laws.RowEncoding.rsvdWrC0 z a d

/-- The row of a record, as the opcode table lists it. -/
theorem row_mem_opcodeRows (i : Instr) : ⟨i.rowMatch, i.rowMask⟩ ∈ opcodeRows := by
  cases i
  all_goals
    rw [Instr.rowMatch, Instr.rowMask]
    decide

theorem opcodeRows_nodup : opcodeRows.Nodup := by decide

/-- Two rows that agree where both their masks look are one row. -/
theorem opcodeRows_disjoint :
    ∀ a ∈ opcodeRows, ∀ b ∈ opcodeRows, a.pattern &&& b.mask = b.pattern &&& a.mask → a = b := by
  decide

/-- No word lies in two rows. -/
theorem eq_of_row_holds {a b : Row} {r : Record} (ha : a ∈ opcodeRows) (hb : b ∈ opcodeRows) (har : a.holds r = true)
    (hbr : b.holds r = true) : a = b := by
  have ha' : r &&& a.mask = a.pattern := by simpa [Row.holds] using har
  have hb' : r &&& b.mask = b.pattern := by simpa [Row.holds] using hbr
  refine opcodeRows_disjoint a ha b hb ?_
  rw [← ha', ← hb', BitVec.and_assoc, BitVec.and_assoc, BitVec.and_comm a.mask]

theorem row_of_decode_holds (r : Record) : Row.holds ⟨(decode r).rowMatch, (decode r).rowMask⟩ r = true := by
  have h := (rowEncoding (decode r) (decode_wellFormed r)).1
  rw [encode_decode] at h
  simp [Row.holds, h]

/-- A list's only element that passes a test is what the test leaves of it. -/
theorem filter_eq_singleton {α : Type} [DecidableEq α] {l : List α} {p : α → Bool} {a : α} (hl : l.Nodup) (ha : a ∈ l)
    (hp : ∀ b ∈ l, p b = true ↔ b = a) : l.filter p = [a] := by
  have hfilter : l.filter p = l.filter (· == a) := List.filter_congr fun b hb => by
    rw [Bool.eq_iff_iff, hp b hb, beq_iff_eq]
  rw [hfilter, List.filter_beq, List.count_eq_one_of_mem hl ha, List.replicate_one]

/-- Settles O14: the row of the decoded record holds the word, and no other row does. -/
theorem everyWordLiesInExactlyItsRow : Obligations.EveryWordLiesInExactlyItsRow := by
  intro r
  have hmem := row_mem_opcodeRows (decode r)
  have hholds := row_of_decode_holds r
  refine filter_eq_singleton opcodeRows_nodup hmem fun row hrow => ⟨fun h => ?_, fun h => ?_⟩
  · exact eq_of_row_holds hrow hmem h hholds
  · rw [h]
    exact hholds

/-- Settles O15: the records of one tag are of one row. -/
theorem tagAloneSelectsTheRow : Obligations.TagAloneSelectsTheRow := by
  intro t d d'
  have hrow := tagRow_decodeTagged t
  rw [decode_mkRecord, decode_mkRecord]
  exact ⟨hrow.mnemonic d d', hrow.rowMatch d d', hrow.data d⟩

/-- Settles O16, word by word. -/
theorem wordsOfTheSpecDecode : Obligations.WordsOfTheSpecDecode := ⟨rfl, rfl, rfl, rfl, rfl, rfl, rfl, rfl⟩

/-! ## Every record completes -/

/-- Settles O9: a record captures, which touches the 36 bits alone, or passes. -/
theorem recordsCompleteAndTouchOnlyTheBlock : Obligations.RecordsCompleteAndTouchOnlyTheBlock := by
  intro i s
  rcases exec_cases i s with ⟨c, -, hcap⟩ | hpass
  · exact ⟨_, hcap, capture_block_only c i.data s⟩
  · exact ⟨s, hpass, rfl⟩

theorem absentStep_input {s t : State} (h : absentStep s = .next t) : t.input = s.input := by rw [absentStep_frame h]

/-- Settles O10: with a TFD the record is executed; a discarded one stops, and the host that has none yet leaves the port alone. -/
theorem stepRunsTheDecodedRecord : Obligations.StepRunsTheDecodedRecord := by
  intro s r rest hi
  refine ⟨decode_wellFormed r, fun ht => step_of_record ht hi, fun ht => ⟨step_of_discarded ht, fun t h => ?_⟩⟩
  rcases step_next h with ⟨htfd, _⟩ | ⟨_, _, habs⟩
  · simp [ht] at htfd
  · exact absentStep_input habs

end Sys2Proof.Safety

/-! The obligations of `40_capture_records`: the four captures with their words and outputs (R80 to R83), and the frame
invariant over every sequence of records after a reset event (R84). -/

namespace Sys2Proof.Safety

open Sys2Proof.Machine

/-! ## The last capture in a sequence of records -/

/-- The last record of `rs` that captures into `c` holds `b`, and `after` is what follows it (`40_capture_records` R84). -/
def LastCapture (c : Cap) (b : Byte) (rs after : List Record) : Prop :=
  ∃ before, rs = before ++ mkRecord (capTag c) b :: after ∧ ∀ r ∈ after, recTag r ≠ capTag c

@[simp] theorem not_lastCapture_nil (c : Cap) (b : Byte) (after : List Record) : ¬ LastCapture c b [] after := by
  simp [LastCapture]

/-- Nothing follows the last capture: it is the last record. -/
theorem lastCapture_append_nil (c : Cap) (b : Byte) (rs : List Record) (r : Record) :
    LastCapture c b (rs ++ [r]) [] ↔ r = mkRecord (capTag c) b := by
  simp [LastCapture, List.append_singleton_inj]

/-- Something follows the last capture: the last record does, and is none. -/
theorem lastCapture_append_append (c : Cap) (b : Byte) (rs after : List Record) (r r' : Record) :
    LastCapture c b (rs ++ [r]) (after ++ [r']) ↔ r' = r ∧ recTag r ≠ capTag c ∧ LastCapture c b rs after := by
  have hsnoc (before : List Record) : rs ++ [r] = before ++ mkRecord (capTag c) b :: (after ++ [r']) ↔
      rs = before ++ mkRecord (capTag c) b :: after ∧ r = r' := by
    rw [← List.cons_append, ← List.append_assoc, List.append_singleton_inj]
  simp only [LastCapture, hsnoc, List.forall_mem_append, List.forall_mem_singleton]
  constructor
  · rintro ⟨before, ⟨hrs, rfl⟩, hafter, hr⟩
    exact ⟨rfl, hr, before, hrs, hafter⟩
  · rintro ⟨rfl, hr, before, hrs, hafter⟩
    exact ⟨before, ⟨hrs, rfl⟩, hafter, hr⟩

/-- A record that captures into the register is the last to do so. -/
theorem lastCapture_append_same {c : Cap} {r : Record} (h : recTag r = capTag c) (b : Byte) (rs after : List Record) :
    LastCapture c b (rs ++ [r]) after ↔ recData r = b ∧ after = [] := by
  rcases after.eq_nil_or_concat' with rfl | ⟨after', r', rfl⟩
  · rw [lastCapture_append_nil, ← mkRecord_recTag_recData r, mkRecord_inj]
    simp [h]
  · simp [lastCapture_append_append, h]

/-- Any other record follows the last one that did. -/
theorem lastCapture_append_ne {c : Cap} {r : Record} (h : recTag r ≠ capTag c) (b : Byte) (rs after : List Record) :
    LastCapture c b (rs ++ [r]) after ↔ ∃ after', after = after' ++ [r] ∧ LastCapture c b rs after' := by
  rcases after.eq_nil_or_concat' with rfl | ⟨after', r', rfl⟩
  · have hr : r ≠ mkRecord (capTag c) b := fun hr => h (by simp [hr])
    simp [lastCapture_append_nil, hr]
  · simp [lastCapture_append_append, h, List.append_singleton_inj]

/-- The last frame is a chain of last captures, each in what follows the one before. -/
theorem lastFrame_iff (rs : List Record) (l m h : Byte) :
    LastFrame rs l m h ↔
      ∃ d d' d'', LastCapture .lsb l rs d ∧ LastCapture .msb m d d' ∧ LastCapture .hsb h d' d'' := by
  constructor
  · rintro ⟨a, b, c, d, rfl, hl, hm, hh⟩
    exact ⟨_, _, d, ⟨a, rfl, by simpa [capTag, or_imp, forall_and] using hl⟩,
      ⟨b, rfl, by simpa [capTag, or_imp, forall_and] using hm⟩, c, rfl, hh⟩
  · rintro ⟨_, _, d, ⟨a, rfl, hl⟩, ⟨b, rfl, hm⟩, c, rfl, hh⟩
    exact ⟨a, b, c, d, rfl, by simpa [capTag, or_imp, forall_and] using hl,
      by simpa [capTag, or_imp, forall_and] using hm, hh⟩

theorem lastStatus_iff (rs : List Record) (f : Byte) : LastStatus rs f ↔ ∃ d, LastCapture .sr f rs d :=
  exists_comm

/-! ## What the flags say of the records -/

/-- A capture register is flagged and holds the byte. -/
def Flagged (c : Cap) (b : Byte) (s : State) : Prop := valid c s = true ∧ readX c s = b

/-- Each flag says that the capture it stands for is the last of its kind, and a flag of a later byte of the frame says it
of the records after the byte before (`40_capture_records` R84). -/
structure FramesCaptured (rs : List Record) (s : State) : Prop where
  low : ∀ l, (∃ d, LastCapture .lsb l rs d) ↔ Flagged .lsb l s
  middle : ∀ l m, (∃ d d', LastCapture .lsb l rs d ∧ LastCapture .msb m d d') ↔ Flagged .lsb l s ∧ Flagged .msb m s
  high : ∀ l m h, (∃ d d' d'', LastCapture .lsb l rs d ∧ LastCapture .msb m d d' ∧ LastCapture .hsb h d' d'') ↔
    Flagged .lsb l s ∧ Flagged .msb m s ∧ Flagged .hsb h s
  status : ∀ f, (∃ d, LastCapture .sr f rs d) ↔ Flagged .sr f s

theorem framesCaptured_nil {s : State} (h : ∀ c, valid c s = false) : FramesCaptured [] s := by
  constructor <;> simp [Flagged, h]

/-- A record that captures nothing stands anywhere without effect (`40_capture_records` R84). -/
theorem FramesCaptured.append_of_pass {rs : List Record} {s : State} {r : Record} (hs : FramesCaptured rs s)
    (h : ∀ c, recTag r ≠ capTag c) : FramesCaptured (rs ++ [r]) s := by
  constructor
  · simpa [lastCapture_append_ne (h _)] using hs.low
  · simpa [lastCapture_append_ne (h _)] using hs.middle
  · simpa [lastCapture_append_ne (h _)] using hs.high
  · simpa [lastCapture_append_ne (h _)] using hs.status

/-! ## What a capture does to the flags -/

theorem capOfIndex_capTag (c : Cap) : capOfIndex ((capTag c).extractLsb' 0 2) = c := by cases c <;> rfl

theorem capTag_injective : Function.Injective capTag := fun c c' h => by
  rw [← capOfIndex_capTag c, h, capOfIndex_capTag]

/-- The capture of `c` clears the flag of `c'`, a byte that comes later in the frame order L, M, H (`10_state` R22). -/
def voids : Cap → Cap → Bool
  | .lsb, .msb => true
  | .lsb, .hsb => true
  | .msb, .hsb => true
  | _, _ => false

/-- After a capture its register holds the data byte, a voided one is not flagged, and any other is as before. -/
theorem flagged_capture (c c' : Cap) (d b : Byte) (s : State) :
    Flagged c' b (capture c d s) ↔ if c' = c then d = b else voids c c' = false ∧ Flagged c' b s := by
  cases c <;> cases c' <;> simp [Flagged, valid, readX, voids]

/-- A capture is the last of its kind and opens its level of the frame anew: the levels below stay, its own is completed with
the data byte, the ones above are lost, as the flags say. -/
theorem FramesCaptured.append_of_capture {rs : List Record} {s : State} {r : Record} {c : Cap}
    (hs : FramesCaptured rs s) (h : recTag r = capTag c) :
    FramesCaptured (rs ++ [r]) (capture c (recData r) s) := by
  obtain ⟨hlow, hmiddle, hhigh, hstatus⟩ := hs
  have same := lastCapture_append_same h
  have ne (c' : Cap) (hc : c ≠ c') := lastCapture_append_ne (h.trans_ne (capTag_injective.ne hc))
  have flag := fun c' b => flagged_capture c c' (recData r) b s
  cases c with
  | lsb =>
    constructor
    · simp [same, flag]
    · simp [same, flag, voids]
    · simp [same, flag, voids]
    · simpa [ne, flag, voids] using hstatus
  | msb =>
    constructor
    · simpa [ne, flag, voids] using hlow
    · simpa [same, ne, flag, voids] using hlow
    · simp [same, ne, flag, voids]
    · simpa [ne, flag, voids] using hstatus
  | hsb =>
    constructor
    · simpa [ne, flag, voids] using hlow
    · simpa [ne, flag, voids] using hmiddle
    · simpa [same, ne, flag, voids, ← and_assoc] using hmiddle
    · simpa [ne, flag, voids] using hstatus
  | sr =>
    constructor
    · simpa [ne, flag, voids] using hlow
    · simpa [ne, flag, voids] using hmiddle
    · simpa [ne, flag, voids] using hhigh
    · simp [same, flag]

/-! ## Every sequence of records -/

theorem FramesCaptured.of_takeInput {rs : List Record} {s : State} (hs : FramesCaptured rs s) (rest : List PortEvent) :
    FramesCaptured rs (takeInput rest s) := ⟨hs.low, hs.middle, hs.high, hs.status⟩

/-- A record at the port is accepted, and the flags say of the records up to it what they said of those before it. -/
theorem step_keeps_framesCaptured {rs : List Record} {s : State} {r : Record} {rest : List PortEvent}
    (ht : s.tfd = true) (hi : s.input = .record r :: rest) (hs : FramesCaptured rs s) :
    ∃ t, step s = .next t ∧ t.tfd = true ∧ t.input = rest ∧ FramesCaptured (rs ++ [r]) t := by
  rw [step_of_record ht hi]
  rcases exec_decode_cases r with ⟨c, htag, hcap⟩ | ⟨hne, hpass⟩
  · exact ⟨_, hcap _, by simp [ht], by simp, (hs.of_takeInput rest).append_of_capture htag⟩
  · exact ⟨_, hpass _, ht, rfl, (hs.of_takeInput rest).append_of_pass hne⟩

/-- The run that accepts a sequence of records. -/
theorem run_keeps_framesCaptured {rs : List Record} : ∀ {seen : List Record} {s : State}, s.tfd = true →
    s.input = rs.map .record → FramesCaptured seen s →
    ∃ t, run rs.length s = .next t ∧ t.input = [] ∧ FramesCaptured (seen ++ rs) t := by
  induction rs with
  | nil => exact fun _ hi hs => ⟨_, rfl, hi, by simpa using hs⟩
  | cons r rs ih =>
    intro seen s ht hi hs
    obtain ⟨t, hstep, htfd, hinput, hframes⟩ := step_keeps_framesCaptured ht hi hs
    rw [List.length_cons, run_succ_of_next _ hstep]
    simpa using ih htfd hinput hframes

/-- A reset event that stands first at the port takes effect. -/
theorem step_of_resetEvent {s : State} {rest : List PortEvent} (ht : s.tfd = true) (hi : s.input = .reset :: rest) :
    step s = .next (blockReset (takeInput rest s)) := by
  rw [step_of_tfd ht]
  unfold portStep
  rw [hi]

theorem blockReset_not_valid (c : Cap) (s : State) : valid c (blockReset s) = false := by cases c <;> rfl

/-- Settles O17: no flag is set after the reset event, every record keeps what the flags say, and the ports and bytes are
read off at the end of the run. -/
theorem frameInvariantAfterReset : Obligations.FrameInvariantAfterReset := by
  intro s rs ht hi
  have hreset := step_of_resetEvent ht hi
  obtain ⟨t, hrun, hinput, hframes⟩ := run_keeps_framesCaptured (s := blockReset (takeInput (rs.map .record) s))
    ht rfl (framesCaptured_nil fun c => blockReset_not_valid c _)
  rw [List.nil_append] at hframes
  have hframe (l m h : Byte) := (lastFrame_iff rs l m h).trans (hframes.high l m h)
  have hstatus (f : Byte) := (lastStatus_iff rs f).trans (hframes.status f)
  refine ⟨t, (run_succ_of_next _ hreset).trans hrun, hinput, ?_, fun l m h hlast => ?_, ?_, fun f hlast => ?_⟩
  · simp [portTOk, hframe, Flagged, and_comm, and_left_comm]
  · obtain ⟨⟨-, hx2⟩, ⟨-, hx1⟩, -, hx0⟩ := (hframe l m h).mp hlast
    exact ⟨hx2, hx1, hx0⟩
  · simp [portFOk, hstatus, Flagged]
  · obtain ⟨-, hx3⟩ := (hstatus f).mp hlast
    exact hx3

/-! ## The word of a record -/

/-- A word that encodes a well-formed record decodes to it. -/
theorem encode_and_decode_word {i : Instr} {w : Record} (hwf : i.wellFormed = true) (hw : encode i = w) :
    encode i = w ∧ decode w = i :=
  ⟨hw, hw ▸ decodeOfEncodeIsTheRecord i hwf⟩

/-! ## The fields of port `T` -/

theorem portT_eq_append (s : State) : portT s = s.x0 ++ s.x1 ++ s.x2.extractLsb' 5 3 := rfl

theorem portT_low (s : State) : (portT s).extractLsb' 0 3 = s.x2.extractLsb' 5 3 :=
  BitVec.extractLsb'_append_eq_right

theorem portT_upper (s : State) : (portT s).extractLsb' 3 16 = s.x0 ++ s.x1 := BitVec.extractLsb'_append_eq_left

theorem portT_middle (s : State) : (portT s).extractLsb' 3 8 = s.x1 := by
  have hlow := s.x1.isLt
  apply BitVec.eq_of_toNat_eq
  rw [BitVec.extractLsb'_toNat, Nat.shiftRight_eq_div_pow, portT_eq_append, field_toNat]
  omega

theorem portT_high (s : State) : (portT s).extractLsb' 11 8 = s.x0 := by
  have hmiddle := s.x1.isLt
  have hhigh := s.x0.isLt
  apply BitVec.eq_of_toNat_eq
  rw [BitVec.extractLsb'_toNat, Nat.shiftRight_eq_div_pow, portT_eq_append, field_toNat]
  omega

/-- The sign of port `T` is that of its high byte. -/
theorem portT_msb (s : State) : (portT s).msb = s.x0.msb :=
  (BitVec.msb_append (x := s.x0 ++ s.x1)).trans BitVec.msb_append

theorem portT_neg_iff (s : State) : (portT s).toInt < 0 ↔ s.x0.getLsbD 7 = true := by
  have hsign : s.x0.getLsbD 7 = s.x0.msb := (BitVec.msb_eq_getLsbD_last _).symm
  rw [hsign, ← portT_msb, BitVec.msb_eq_toInt, decide_eq_true_iff]

/-! ## The four captures -/

/-- Settles O1: the word of tag 0x0C, then the fields of the ports. -/
theorem captureHighByteResult : Obligations.CaptureHighByteResult := by
  intro d s
  obtain ⟨hword, hdecode⟩ := encode_and_decode_word (i := .capLtcbh d) rfl (mkRecord_eq_or 0x0C d)
  exact ⟨hword, hdecode, capture .hsb d s, rfl, rfl, rfl, portT_high _, portT_msb _, portT_neg_iff _⟩

/-- Settles O2: the word of tag 0x0D, and `T_OK` is 0 with `v[0]`. -/
theorem captureMiddleByteResult : Obligations.CaptureMiddleByteResult := by
  intro d s
  obtain ⟨hword, hdecode⟩ := encode_and_decode_word (i := .capLtcbm d) rfl (mkRecord_eq_or 0x0D d)
  exact ⟨hword, hdecode, capture .msb d s, rfl, rfl, rfl, portT_middle _⟩

/-- Settles O3: the word of tag 0x0E, and the upper sixteen bits of `T` are the two bytes it leaves. -/
theorem captureLowByteResult : Obligations.CaptureLowByteResult := by
  intro d s
  obtain ⟨hword, hdecode⟩ := encode_and_decode_word (i := .capLtcbl d) rfl (mkRecord_eq_or 0x0E d)
  exact ⟨hword, hdecode, capture .lsb d s, rfl, rfl, rfl, portT_low _, (portT_upper _).trans (portT_upper s).symm⟩

theorem popcount_le (b : Byte) : popcount b ≤ 8 := by
  revert b
  decide

/-- The count fits the four bits of port `FCNT` (`44_fault_decode` R155). -/
theorem portFcnt_toNat (s : State) : (portFcnt s).toNat = popcount s.x3 := by
  have h := popcount_le s.x3
  exact Nat.mod_eq_of_lt (by omega : popcount s.x3 < 2 ^ 4)

/-- Settles O4: the word of tag 0x0F; `T` and `T_OK` do not read the fourth register and its flag. -/
theorem captureStatusResult : Obligations.CaptureStatusResult := by
  intro d s
  obtain ⟨hword, hdecode⟩ := encode_and_decode_word (i := .capSr d) rfl (mkRecord_eq_or 0x0F d)
  exact ⟨hword, hdecode, capture .sr d s, rfl, rfl, rfl, rfl, portFcnt_toNat _, rfl, rfl⟩

end Sys2Proof.Safety

/-! The obligations of `41_passthrough_records`: the read, write and reserved records pass (R90 to R117). -/

namespace Sys2Proof.Safety

open Sys2Proof.Machine

/-! ## A tag that R68's test does not select -/

/-- R68 compares the whole of `tag[7:2]`: a record on whose tag that test fails passes (R115). -/
theorem exec_decodeTagged_of_captureBits_ne {t : Byte} (h : t.extractLsb' 2 6 ≠ 0b000011#6) (d : Byte) (s : State) :
    exec (decodeTagged t d) s = .next s := by
  have hpass : ruleStep (mkRecord t d) s = s := if_neg (by rwa [← recTag_mkRecord t d] at h)
  rw [← decode_mkRecord, exec_decode_eq_ruleStep, hpass]

/-- The word of a tag outside the captures, as the spec writes it: its record and its effect. -/
theorem decode_word_pass (t : Byte) (h : t.extractLsb' 2 6 ≠ 0b000011#6) (d : Byte) (s : State) :
    decode (t.zeroExtend 16 <<< 8 ||| d.zeroExtend 16) = decodeTagged t d ∧ exec (decodeTagged t d) s = .next s := by
  rw [← mkRecord_eq_or, decode_mkRecord]
  exact ⟨rfl, exec_decodeTagged_of_captureBits_ne h d s⟩

/-! ## The reserved tags -/

/-- A capture's low bits do not make a capture where Z is not zero or W is set (R115, R116). -/
theorem captureBits_ne_of_le {t : Byte} (h : 0x10 ≤ t) : t.extractLsb' 2 6 ≠ 0b000011#6 := by
  revert t
  decide

theorem fields_of_rsvdRd {t : Byte} (hlo : 0x10 ≤ t) (hhi : t ≤ 0x7F) : tagZ t ≠ 0#3 ∧ tagW t = 0#1 := by
  revert t
  decide

theorem fields_of_rsvdWro {t : Byte} (hlo : 0x8C ≤ t) (hhi : t ≤ 0x8F) :
    tagZ t = 0#3 ∧ tagW t ≠ 0#1 ∧ 12#4 ≤ tagA t := by
  revert t
  decide

theorem fields_of_rsvdWr {t : Byte} (h : ¬ t ≤ 0x8F) : tagZ t ≠ 0#3 ∧ tagW t ≠ 0#1 := by
  revert t
  decide

/-- The three rows of `RSVD.RD` (R115). -/
theorem mnemonic_rsvdRd {t : Byte} (hz : tagZ t ≠ 0#3) (hw : tagW t = 0#1) (d : Byte) :
    (decodeTagged t d).mnemonic = "RSVD.RD" := by
  rw [decodeTagged, if_neg hz, if_pos hw]
  split_ifs <;> rfl

/-- The row of the write images of the four read-only registers (R114). -/
theorem mnemonic_rsvdWro {t : Byte} (hz : tagZ t = 0#3) (hw : tagW t ≠ 0#1) (ha : 12#4 ≤ tagA t) (d : Byte) :
    (decodeTagged t d).mnemonic = "RSVD.WRO" := by
  rw [decodeTagged, if_pos hz, if_neg hw, decodeWrite_of_readOnly ha]
  rfl

/-- The three rows of `RSVD.WR` (R116). -/
theorem mnemonic_rsvdWr {t : Byte} (hz : tagZ t ≠ 0#3) (hw : tagW t ≠ 0#1) (d : Byte) :
    (decodeTagged t d).mnemonic = "RSVD.WR" := by
  rw [decodeTagged, if_neg hz, if_neg hw]
  split_ifs <;> rfl

/-- Settles O8: R68's test fails on every tag from 0x10 on, and the fields of the tag name the row. -/
theorem reservedTagsAreIgnored : Obligations.ReservedTagsAreIgnored := by
  intro t d s hlo hrange
  rw [decode_mkRecord]
  refine ⟨exec_decodeTagged_of_captureBits_ne (captureBits_ne_of_le hlo) d s, ?_⟩
  split_ifs with hrd hwro
  · obtain ⟨hz, hw⟩ := fields_of_rsvdRd hlo hrd
    exact mnemonic_rsvdRd hz hw d
  · obtain ⟨hz, hw, ha⟩ := fields_of_rsvdWro (hrange.resolve_left hrd) hwro
    exact mnemonic_rsvdWro hz hw ha d
  · obtain ⟨hz, hw⟩ := fields_of_rsvdWr hwro
    exact mnemonic_rsvdWr hz hw d

/-! ## The records of the file, one by one -/

/-- Settles O5: the meaning of each record is `pass`, whatever its fields hold (R117). -/
theorem passThroughRecordsChangeNothing : Obligations.PassThroughRecordsChangeNothing := by
  intro d z a s
  refine ⟨?reads, ?writes, ?reserved⟩
  case reads => and_intros <;> rfl
  case writes => and_intros <;> rfl
  case reserved => and_intros <;> rfl

/-- Settles O6: the tags 0x00 to 0x0B lie below the captures. -/
theorem passThroughReadsByWord : Obligations.PassThroughReadsByWord := fun d s =>
  ⟨decode_word_pass 0x00 (by decide) d s, decode_word_pass 0x01 (by decide) d s,
   decode_word_pass 0x02 (by decide) d s, decode_word_pass 0x03 (by decide) d s,
   decode_word_pass 0x04 (by decide) d s, decode_word_pass 0x05 (by decide) d s,
   decode_word_pass 0x06 (by decide) d s, decode_word_pass 0x07 (by decide) d s,
   decode_word_pass 0x08 (by decide) d s, decode_word_pass 0x09 (by decide) d s,
   decode_word_pass 0x0A (by decide) d s, decode_word_pass 0x0B (by decide) d s⟩

/-- Settles O7: the write flag of the tags 0x80 to 0x8B stands in the bits R68 compares. -/
theorem passThroughWritesByWord : Obligations.PassThroughWritesByWord := fun d s =>
  ⟨decode_word_pass 0x80 (by decide) d s, decode_word_pass 0x81 (by decide) d s,
   decode_word_pass 0x82 (by decide) d s, decode_word_pass 0x83 (by decide) d s,
   decode_word_pass 0x84 (by decide) d s, decode_word_pass 0x85 (by decide) d s,
   decode_word_pass 0x86 (by decide) d s, decode_word_pass 0x87 (by decide) d s,
   decode_word_pass 0x88 (by decide) d s, decode_word_pass 0x89 (by decide) d s,
   decode_word_pass 0x8A (by decide) d s, decode_word_pass 0x8B (by decide) d s⟩

end Sys2Proof.Safety

/-! The obligations of `42_host_sequences`: the host's invariant is kept by every step (R131, R135 to R137), the refused writes
and the stops of the host (R131, R135, R137), `INIT` and the two queries from their line to their result (R132 to R134), and
the invariant of the queries (R133, R134). -/

namespace Sys2Proof.Safety

open Sys2Proof.Machine

/-! ## The phase of a standing instance -/

/-- What the host's invariant asks of the phase of an instance that stands: `INIT` with the configured type and only before
Ready, a query only in Ready, no write to a read-only register (`42_host_sequences` R131, R132, R135). -/
def PhaseLegal (s : State) : Prop :=
  match s.phase with
  | .idle | .rd _ => True
  | .wr r _ => regWritable r = true
  | .initCr0 tc | .initCr1 tc => s.mode = .uninitialized ∧ ∀ c, s.cfg = some c → c.tcType = tc
  | .tempL | .tempM | .tempH | .tempSample | .faultsSr | .faultsSample => s.mode = .ready

theorem HostInv.phaseLegal {s : State} (h : HostInv s) : PhaseLegal s := by
  have hinit : inInit s.phase = true → s.mode = .uninitialized := fun hi => (h.initOwns hi).1
  have htype := h.initType
  have hquery := h.queryReady
  have hwrite := h.writeLegal
  unfold PhaseLegal
  cases hp : s.phase <;> simp_all [inInit, inQuery]

/-- Under the host's invariant a TFD exists, and the move to `t` keeps handle, TFD and configuration and leaves the phase
legal: then the invariant is kept. -/
theorem HostInv.of_move {s t : State} (h : HostInv s) (hs : s.tfd = true) (hm : t.mode = s.mode ∨ t.mode = .ready)
    (hh : t.handle = s.handle) (ht : t.tfd = s.tfd) (hc : t.cfg = s.cfg)
    (hr : .invalidConfiguration ∈ t.returned → .invalidConfiguration ∈ s.returned) (hp : PhaseLegal t) : HostInv t := by
  obtain ⟨hmode, hhandle, hcfg, hret⟩ := hostInv_standing h hs
  unfold PhaseLegal at hp
  apply hostInv_of_standing _ (hh.trans hhandle) (ht.trans hs) (hc ▸ hcfg) (mt hr hret)
  · cases hq : t.phase <;> simp_all [inInit]
  · rintro c tc hct (hq | hq)
    · rw [hq] at hp
      exact hp.2 c hct
    · rw [hq] at hp
      exact hp.2 c hct
  · cases hq : t.phase <;> simp_all [inQuery]
  · intro r b hq
    rwa [hq] at hp
  · rcases hm with hm | hm
    · rwa [hm]
    · exact .inr hm

/-- An instance that ends, and has at most the failure of its transaction still to give back. -/
theorem HostInv.of_end {s t : State} (h : HostInv s) (hs : s.tfd = true) (hm : t.mode = .dead) (hh : t.handle = false)
    (ht : t.tfd = false) (hp : t.phase = .idle)
    (hr : .invalidConfiguration ∈ t.returned → .invalidConfiguration ∈ s.returned) : HostInv t := by
  obtain ⟨-, -, -, hret⟩ := hostInv_standing h hs
  exact hostInv_of_dead hm hh ht hp fun hmem => absurd (hr hmem) hret

/-- Everything the host's invariant speaks of, but the transactions, is in `t` what it is in `s`, and no rejection is new. -/
structure SameHost (s t : State) : Prop where
  mode : t.mode = s.mode
  cfg : t.cfg = s.cfg
  handle : t.handle = s.handle
  tfd : t.tfd = s.tfd
  phase : t.phase = s.phase
  returned : .invalidConfiguration ∈ t.returned → .invalidConfiguration ∈ s.returned

theorem SameHost.trans {s t u : State} (h : SameHost s t) (k : SameHost t u) : SameHost s u :=
  ⟨k.mode.trans h.mode, k.cfg.trans h.cfg, k.handle.trans h.handle, k.tfd.trans h.tfd, k.phase.trans h.phase,
   h.returned ∘ k.returned⟩

theorem SameHost.phaseLegal {s t : State} (hst : SameHost s t) (h : PhaseLegal s) : PhaseLegal t := by
  unfold PhaseLegal at h ⊢
  rwa [hst.mode, hst.cfg, hst.phase]

theorem HostInv.of_sameHost {s t : State} (h : HostInv s) (hs : s.tfd = true) (hst : SameHost s t) : HostInv t :=
  h.of_move hs (.inl hst.mode) hst.handle hst.tfd hst.cfg hst.returned (hst.phaseLegal h.phaseLegal)

/-! ## What each move does to the host -/

theorem samplePort_rejection {p : Port} {s : State} (h : .invalidConfiguration ∈ (samplePort p s).returned) :
    .invalidConfiguration ∈ s.returned := by
  cases p <;> simpa [samplePort] using h

theorem sameHost_samplePort (p : Port) (s : State) : SameHost s (samplePort p s) where
  mode := by rw [samplePort_frame]
  cfg := by rw [samplePort_frame]
  handle := by rw [samplePort_frame]
  tfd := by rw [samplePort_frame]
  phase := by rw [samplePort_frame]
  returned := samplePort_rejection

theorem sameHost_takeInput (rest : List PortEvent) (s : State) : SameHost s (takeInput rest s) :=
  ⟨rfl, rfl, rfl, rfl, rfl, id⟩

theorem sameHost_capture (c : Cap) (d : Byte) (s : State) : SameHost s (capture c d s) := by constructor <;> simp

theorem sameHost_blockReset (s : State) : SameHost s (blockReset s) := ⟨rfl, rfl, rfl, rfl, rfl, id⟩

theorem advanceHost_mode (rx1 : Byte) (s : State) :
    (advanceHost rx1 s).mode = s.mode ∨ (advanceHost rx1 s).mode = .ready := by
  unfold advanceHost
  split <;> simp

theorem advanceHost_rejection {rx1 : Byte} {s : State} (h : .invalidConfiguration ∈ (advanceHost rx1 s).returned) :
    .invalidConfiguration ∈ s.returned := by
  unfold advanceHost at h
  split at h <;> simpa using h

/-- A completed transaction leads from a legal phase to a legal one: the second write of `INIT` keeps the type of the first, and
a query goes on in Ready. -/
theorem advanceHost_phaseLegal {rx1 : Byte} {s : State} (h : PhaseLegal s) : PhaseLegal (advanceHost rx1 s) := by
  unfold PhaseLegal at h
  unfold advanceHost
  split <;> simp_all [PhaseLegal]

theorem hostInv_completeXfer {s : State} (h : HostInv s) (hs : s.tfd = true) (x : Xfer) : HostInv (completeXfer x s) := by
  have hd : HostInv (deliver x.tx0 (xferData x) { s with bus := s.bus ++ [x] }) :=
    h.of_sameHost hs ⟨rfl, rfl, rfl, rfl, rfl, id⟩
  refine hd.of_move hs (advanceHost_mode _ _) ?_ ?_ ?_ advanceHost_rejection (advanceHost_phaseLegal hd.phaseLegal)
  all_goals rw [completeXfer, advanceHost_frame]

/-- A transaction that fails inside `INIT` ends the instance. -/
theorem failXfer_of_init {s : State} (h : inInit s.phase = true) :
    failXfer s = giveBack .transportFailure (endInstance s) := by
  unfold failXfer
  cases hp : s.phase <;> simp_all [inInit]

/-- A transaction that fails anywhere else leaves the host between two lines. -/
theorem failXfer_of_not_init {s : State} (h : inInit s.phase = false) :
    failXfer s = giveBack .transportFailure { s with phase := .idle } := by
  unfold failXfer
  cases hp : s.phase <;> simp_all [inInit]

theorem hostInv_failXfer {s : State} (h : HostInv s) (hs : s.tfd = true) : HostInv (failXfer s) := by
  cases hi : inInit s.phase with
  | true =>
    rw [failXfer_of_init hi]
    exact h.of_end hs rfl rfl rfl rfl (by simp)
  | false =>
    rw [failXfer_of_not_init hi]
    exact h.of_move hs (.inl rfl) rfl rfl rfl (by simp) trivial

/-- A program line begins a legal phase, ends the instance, or leaves the host as it was. -/
theorem hostInv_startOp {op : HostOp} {s t : State} (h : HostInv s) (hs : s.tfd = true) (hop : startOp op s = .next t) :
    HostInv t := by
  rcases startOp_cases hop with ⟨r, _, _, rfl⟩ | ⟨r, b, _, hr, _, rfl⟩ | ⟨tag, d, _, rfl⟩ | ⟨_, rfl⟩ | ⟨p, _, rfl⟩ |
    ⟨_, hinit⟩ | ⟨_, hm, rfl⟩ | ⟨_, hm, rfl⟩ | ⟨_, _, rfl⟩
  · exact h.of_move hs (.inl rfl) rfl rfl rfl id trivial
  · exact h.of_move hs (.inl rfl) rfl rfl rfl id hr
  · exact h.of_sameHost hs ⟨rfl, rfl, rfl, rfl, rfl, id⟩
  · exact h.of_sameHost hs ⟨rfl, rfl, rfl, rfl, rfl, id⟩
  · exact h.of_sameHost hs (sameHost_samplePort p s)
  · obtain ⟨hm, cfg, hcfg, rfl⟩ := startInit_cases hinit
    refine h.of_move hs (.inl rfl) rfl rfl rfl id ⟨hm, fun c hc => ?_⟩
    rw [Option.some.inj (hcfg.symm.trans hc)]
  · exact h.of_move hs (.inl rfl) rfl rfl rfl id hm
  · exact h.of_move hs (.inl rfl) rfl rfl rfl id hm
  · exact h.of_end hs rfl rfl rfl rfl id

theorem hostInv_hostAct {s t : State} (h : HostInv s) (hs : s.tfd = true) (hn : busRequest s.phase = none)
    (hact : hostAct s = .next t) : HostInv t := by
  rcases hostAct_cases hn hact with ⟨_, rfl⟩ | ⟨_, rfl⟩ | ⟨_, _, rfl⟩ | ⟨_, op, rest, _, hop⟩
  · exact h.of_move hs (.inl rfl) rfl rfl rfl (by simp [finishTemp]) trivial
  · exact h.of_move hs (.inl rfl) rfl rfl rfl (by simp [finishFaults]) trivial
  · exact h
  · have hrest : HostInv { s with todo := rest } := h.of_sameHost hs ⟨rfl, rfl, rfl, rfl, rfl, id⟩
    exact hostInv_startOp hrest hs hop

theorem hostInv_envStep {s t : State} (h : HostInv s) (hs : s.tfd = true) (henv : envStep s = .next t) : HostInv t := by
  have hev (ev : List Event) : HostInv { s with events := ev } := h.of_sameHost hs ⟨rfl, rfl, rfl, rfl, rfl, id⟩
  rcases envStep_cases henv with ⟨ev, _, rfl⟩ | ⟨p, ev, _, rfl⟩ | ⟨_, _, _, ev, _, _, rfl⟩ | ⟨_, ev, _, _, rfl⟩ |
    ⟨_, _, _, rfl⟩ | ⟨hn, _, _, hact⟩
  · exact h.of_sameHost hs ⟨rfl, rfl, rfl, rfl, rfl, id⟩
  · exact (hev ev).of_sameHost hs (sameHost_samplePort p _)
  · exact hostInv_completeXfer (hev ev) hs _
  · exact hostInv_failXfer (hev ev) hs
  · exact h
  · exact hostInv_hostAct h hs hn hact

/-- Construction leads to a rejected instance, which is dead and did no transaction, or to one that stands. -/
theorem hostInv_absentStep {s t : State} (h : HostInv s) (hm : s.mode = .absent) (habs : absentStep s = .next t) :
    HostInv t := by
  obtain ⟨-, -, -, -, hbus, hret⟩ := h.absentNothing hm
  rcases absentStep_cases habs with ⟨_, rfl⟩ | ⟨c, rest, _, hc⟩
  · exact h
  rcases startConstruct_cases hc with ⟨_, rfl⟩ | ⟨cfg, _, rfl⟩
  · exact hostInv_of_dead rfl rfl rfl rfl fun _ => ⟨by simp [hret], hbus⟩
  · apply hostInv_of_standing (.inl rfl) rfl rfl rfl
    all_goals simp [hret, inInit, inQuery]

/-- Settles O56: what stands at the port does not touch the host, the environment's moves keep its phase legal or end
its instance, and construction begins one. -/
theorem hostInvariantKept : Obligations.HostInvariantKept := by
  intro s t h hstep
  rcases step_next hstep with ⟨hs, -⟩ | ⟨-, hm, habs⟩
  case inr => exact hostInv_absentStep h hm habs
  rcases step_cases hstep with ⟨_, rest, _, _, _, rfl⟩ | ⟨_, rest, _, rfl⟩ | ⟨rest, _, rfl⟩ | ⟨_, rest, _, rfl⟩ |
    ⟨_, henv⟩ | ⟨hf, _⟩
  · exact h.of_sameHost hs ((sameHost_takeInput rest s).trans (sameHost_capture _ _ _))
  · exact h.of_sameHost hs (sameHost_takeInput rest s)
  · exact h.of_sameHost hs ((sameHost_takeInput rest s).trans (sameHost_blockReset _))
  · exact h.of_sameHost hs ((sameHost_takeInput rest s).trans (sameHost_samplePort _ _))
  · exact hostInv_envStep h hs henv
  · simp [hs] at hf

/-! ## Where the host state machine gives no move -/

/-- Settles O43: the line begins, and the map gives none of the four registers a write address. -/
theorem writeToReadOnlyIsRefused : Obligations.WriteToReadOnlyIsRefused := by
  intro s r b ops ht hi hp he htodo hr
  have hro : regWritable r = false := by rcases hr with rfl | rfl | rfl | rfl <;> rfl
  rw [step_of_line ht hi hp he htodo, startOp, hro]
  rfl

theorem startQuery_of_uninitialized {s : State} (h : s.mode = .uninitialized) (p : Phase) :
    startQuery p s = .fault .notReady := by rw [startQuery, h]

theorem startQuery_of_ready {s : State} (h : s.mode = .ready) (p : Phase) :
    startQuery p s = .next { s with phase := p } := by rw [startQuery, h]

theorem startQuery_of_dead {s : State} (h : s.mode = .dead) (p : Phase) :
    startQuery p s = .fault .instanceDead := by rw [startQuery, h]

theorem startInit_of_ready {s : State} (h : s.mode = .ready) : startInit s = .fault .alreadyInitialized := by
  rw [startInit, h]

theorem startInit_of_dead {s : State} (h : s.mode = .dead) : startInit s = .fault .instanceDead := by
  rw [startInit, h]

theorem startTransaction_of_dead {s : State} (h : s.mode = .dead) (p : Phase) :
    startTransaction p s = .fault .instanceDead := by rw [startTransaction, h]

theorem discardInstance_of_standing {s : State} (h : s.mode = .uninitialized ∨ s.mode = .ready) :
    discardInstance s = .next (endInstance s) := by
  rcases h with h | h <;> rw [discardInstance, h]

/-- Before construction only `construct` begins (`70_reset_and_hazards` R182). -/
theorem absentStep_of_ne_construct {s : State} {op : HostOp} {ops : List HostOp} (htodo : s.todo = op :: ops)
    (h : ∀ c, op ≠ .construct c) : absentStep s = .fault .noInstance := by
  unfold absentStep
  rw [htodo]
  cases op with
  | construct c => exact absurd rfl (h c)
  | _ => rfl

/-- Settles O52: each line begins as `step_of_line` says, and the mode decides; without a TFD the mode alone decides. -/
theorem hostOperationsStopOutsideTheirState : Obligations.HostOperationsStopOutsideTheirState := by
  refine ⟨fun s ops c r b ht hi hp he => ?_, fun s op ops ht hm htodo hop => ?_, fun s ht hm => step_of_discarded ht hm⟩
  · have hline : ∀ op, s.todo = op :: ops → step s = startOp op { s with todo := ops } :=
      fun op htodo => step_of_line ht hi hp he htodo
    refine ⟨fun hm htodo => ?_, fun hm htodo => ?_, fun hm htodo => ?_, fun htodo => hline _ htodo, fun hm htodo => ?_⟩
    · rcases htodo with htodo | htodo
      · exact (hline _ htodo).trans (startQuery_of_uninitialized (by exact hm) _)
      · exact (hline _ htodo).trans (startQuery_of_uninitialized (by exact hm) _)
    · exact (hline _ htodo).trans (startInit_of_ready hm)
    · rcases htodo with htodo | htodo | htodo | htodo | ⟨htodo, hw⟩
      · exact (hline _ htodo).trans (startQuery_of_dead (by exact hm) _)
      · exact (hline _ htodo).trans (startQuery_of_dead (by exact hm) _)
      · exact (hline _ htodo).trans (startInit_of_dead hm)
      · exact (hline _ htodo).trans (startTransaction_of_dead (by exact hm) _)
      · rw [hline _ htodo, startOp, if_pos hw]
        exact startTransaction_of_dead (by exact hm) _
    · rw [hline _ htodo]
      refine Eq.trans (discardInstance_of_standing (by exact hm)) ?_
      rw [endInstance, hp]
  · rw [step_of_absent ht hm]
    exact absentStep_of_ne_construct htodo hop

/-! ## INIT -/

/-- Settles O47: `run_of_init`, its two tags and its byte of CR1 written out. -/
theorem initWritesCr0ThenCr1 : Obligations.InitWritesCr0ThenCr1 := by
  intro s cfg ops a0 a1 b0 b1 ev ht hi hp hm htodo hcfg he
  rw [run_of_init ht hi hp hm htodo hcfg he, hp, cr1Byte_eq_or]
  rfl

/-! ## A read of a query -/

/-- The capture register the read of a query's act is for, and the act that follows (`42_host_sequences` R133, R134). -/
def captureRead : Phase → Option (Cap × Phase)
  | .tempL => some (.lsb, .tempM)
  | .tempM => some (.msb, .tempH)
  | .tempH => some (.hsb, .tempSample)
  | .faultsSr => some (.sr, .faultsSample)
  | .idle | .rd _ | .wr _ _ | .initCr0 _ | .initCr1 _ | .tempSample | .faultsSample => none

theorem busRequest_of_captureRead {p p' : Phase} {c : Cap} (h : captureRead p = some (c, p')) :
    busRequest p = some (capTag c, 0x00) := by
  cases p <;> cases h <;> rfl

theorem advanceHost_of_captureRead {s : State} {p' : Phase} {c : Cap} (h : captureRead s.phase = some (c, p')) (b : Byte) :
    advanceHost b s = { s with phase := p' } := by
  unfold advanceHost
  cases hp : s.phase <;> rw [hp] at h <;> cases h <;> rfl

theorem inInit_of_captureRead {p p' : Phase} {c : Cap} (h : captureRead p = some (c, p')) : inInit p = false := by
  cases p <;> cases h <;> rfl

theorem capTag_getLsbD_seven (c : Cap) : (capTag c).getLsbD 7 = false := by cases c <;> rfl

/-- The read of a query that completes leaves the record of its byte at the port. -/
theorem completeXfer_of_captureRead {s : State} {p' : Phase} {c : Cap} (hi : s.input = [])
    (hq : captureRead s.phase = some (c, p')) (rx0 b : Byte) :
    completeXfer ⟨capTag c, 0x00, rx0, b⟩ s = { s with
      phase := p', bus := s.bus ++ [⟨capTag c, 0x00, rx0, b⟩], input := [.record (mkRecord (capTag c) b)] } := by
  rw [completeXfer, xferData_of_read (capTag_getLsbD_seven c), advanceHost_of_captureRead (by exact hq)]
  simp only [deliver, hi, List.nil_append]

/-- A capture record that stands first at the port is taken and captured. -/
theorem step_of_captureRecord {s : State} {c : Cap} {d : Byte} {rest : List PortEvent} (ht : s.tfd = true)
    (hi : s.input = .record (mkRecord (capTag c) d) :: rest) : step s = .next (capture c d (takeInput rest s)) := by
  rw [step_of_record ht hi, decode, recTag_mkRecord, recData_mkRecord, exec_decodeTagged]
  cases c <;> rfl

/-- The read of a query that completes and its record's acceptance, two steps: the byte is captured, and the host is at its next
act. -/
theorem run_of_captureRead {s : State} {p' : Phase} {c : Cap} {rx0 b : Byte} {ev : List Event} (k : Nat) (ht : s.tfd = true)
    (hi : s.input = []) (hq : captureRead s.phase = some (c, p')) (he : s.events = .reply rx0 b :: ev) :
    run (k + 2) s = run k (capture c b { s with
      phase := p', events := ev, bus := s.bus ++ [⟨capTag c, 0x00, rx0, b⟩] }) := by
  rw [run_succ_of_next (k + 1) (step_of_reply ht hi (busRequest_of_captureRead hq) he),
    completeXfer_of_captureRead (by exact hi) (by exact hq)]
  refine (run_succ_of_next k (step_of_captureRecord (rest := []) (by exact ht) rfl)).trans ?_
  rw [takeInput, hi]

/-- The read of a query that fails: the host is between two lines, and the failure is returned. -/
theorem step_of_captureRead_fail {s : State} {p' : Phase} {c : Cap} {ev : List Event} (ht : s.tfd = true) (hi : s.input = [])
    (hq : captureRead s.phase = some (c, p')) (he : s.events = .fail :: ev) :
    step s = .next { s with phase := .idle, events := ev, returned := s.returned ++ [.transportFailure] } := by
  rw [step_of_empty ht hi, envStep_of_fail (busRequest_of_captureRead hq) he,
    failXfer_of_not_init (by exact inInit_of_captureRead hq)]
  rfl

/-! ## GETTEMP and GETFAULTS from their line to their result -/

/-- The line of a query in Ready: its first read is due. -/
theorem run_of_queryLine {s : State} {op : HostOp} {ops : List HostOp} {p : Phase} (k : Nat) (ht : s.tfd = true)
    (hi : s.input = []) (hp : s.phase = .idle) (hm : s.mode = .ready) (htodo : s.todo = op :: ops)
    (hop : ∀ u, startOp op u = startQuery p u) (he : outsideNext s.events = false) :
    run (k + 1) s = run k { s with todo := ops, phase := p } := by
  refine run_succ_of_next k ?_
  rw [step_of_line ht hi hp he htodo, hop]
  exact startQuery_of_ready (by exact hm) _

/-- Port `T` as a number is `TDEC` of the three registers (`43_temperature_decode` R144): both are the same sum. -/
theorem portT_toInt_eq_tdec (s : State) : (portT s).toInt = tdec s.x2 s.x1 s.x0 := by
  have hfield : (portT s).toNat = s.x0.toNat * 2048 + s.x1.toNat * 8 + s.x2.toNat / 32 := field_toNat s.x2 s.x1 s.x0
  have h0 := s.x0.isLt
  have h1 := s.x1.isLt
  have h2 := s.x2.isLt
  rw [tdec_number, BitVec.toInt_eq_toNat_cond, hfield]
  split <;> omega

/-- `GETTEMP` whose `T_OK` is 1 at its sampling returns `TDEC` of the registers (`42_host_sequences` R133). -/
theorem finishTemp_of_ok {s : State} (h : portTOk s = true) :
    finishTemp s = { s with
      phase := .idle, returned := s.returned ++ [.temperature (tdec s.x2 s.x1 s.x0)], draws := s.draws + 1 } := by
  rw [finishTemp, useT_of_ok h, portT_toInt_eq_tdec]
  rfl

/-- `GETFAULTS` whose `F_OK` is 1 at its sampling returns `FDEC` of the register (`42_host_sequences` R134). -/
theorem finishFaults_of_ok {s : State} (h : portFOk s = true) :
    finishFaults s = { s with
      phase := .idle, returned := s.returned ++ [.faults (fdec s.x3)], draws := s.draws + 1 } := by
  rw [finishFaults, useF_of_ok h]
  rfl

theorem step_of_tempSample {s : State} (ht : s.tfd = true) (hi : s.input = []) (he : outsideNext s.events = false)
    (hp : s.phase = .tempSample) : step s = .next (finishTemp s) := by
  rw [step_of_empty ht hi, envStep_of_host (by rw [hp]; rfl) he, hostAct, hp]

theorem step_of_faultsSample {s : State} (ht : s.tfd = true) (hi : s.input = []) (he : outsideNext s.events = false)
    (hp : s.phase = .faultsSample) : step s = .next (finishFaults s) := by
  rw [step_of_empty ht hi, envStep_of_host (by rw [hp]; rfl) he, hostAct, hp]

/-- Settles O49: the line, three reads in frame order that leave `T_OK` at 1, and the sampling. -/
theorem getTempReturnsTdecOfTheReplies : Obligations.GetTempReturnsTdecOfTheReplies := by
  intro s ops l m h a b c ev ht hi hp hm htodo he hout
  refine (run_of_queryLine 7 ht hi hp hm htodo (fun _ => rfl) (by rw [he]; rfl)).trans ?_
  refine Eq.trans (run_of_captureRead 5 ht hi rfl he) ?_
  refine Eq.trans (run_of_captureRead 3 ht hi rfl rfl) ?_
  refine Eq.trans (run_of_captureRead 1 ht hi rfl rfl) ?_
  refine Eq.trans (run_succ_of_next 0 (step_of_tempSample ht hi hout rfl)) ?_
  rw [finishTemp_of_ok rfl, hp]
  simp [capTag]

/-- Settles O50: the line, one read that leaves `F_OK` at 1, and the sampling. -/
theorem getFaultsReturnsFdecOfTheReply : Obligations.GetFaultsReturnsFdecOfTheReply := by
  intro s ops a b ev ht hi hp hm htodo he hout
  refine (run_of_queryLine 3 ht hi hp hm htodo (fun _ => rfl) (by rw [he]; rfl)).trans ?_
  refine Eq.trans (run_of_captureRead 1 ht hi rfl he) ?_
  refine Eq.trans (run_succ_of_next 0 (step_of_faultsSample ht hi hout rfl)) ?_
  rw [finishFaults_of_ok rfl, hp]
  rfl

/-- Settles O51: the reads before the failing one capture their bytes, and the last of them clears the flag of the high byte, so
`T_OK` is 0. -/
theorem getTempFailureLeavesNoMixedFrame : Obligations.GetTempFailureLeavesNoMixedFrame := by
  intro s ops ev ht hi hp hm htodo
  refine ⟨fun he => ?_, fun a l he => ?_, fun a l b m he => ?_⟩
  · refine (run_of_queryLine 1 ht hi hp hm htodo (fun _ => rfl) (by rw [he]; rfl)).trans ?_
    refine Eq.trans (run_succ_of_next 0 (step_of_captureRead_fail ht hi rfl he)) ?_
    rw [hp]
    rfl
  · rw [run_of_queryLine 3 ht hi hp hm htodo (fun _ => rfl) (by rw [he]; rfl)]
    refine ⟨_, Eq.trans (run_of_captureRead 1 ht hi rfl he)
      (run_succ_of_next 0 (step_of_captureRead_fail ht hi rfl rfl)), ?_⟩
    exact ⟨rfl, rfl, rfl, rfl, hm, rfl, rfl⟩
  · rw [run_of_queryLine 5 ht hi hp hm htodo (fun _ => rfl) (by rw [he]; rfl)]
    refine ⟨_, Eq.trans (run_of_captureRead 3 ht hi rfl he) (Eq.trans (run_of_captureRead 1 ht hi rfl rfl)
      (run_succ_of_next 0 (step_of_captureRead_fail ht hi rfl rfl))), ?_⟩
    exact ⟨rfl, rfl, rfl, rfl, hm, rfl, rfl⟩

/-! ## The invariant of the queries -/

/-- The capture register whose byte the act before has read (`42_host_sequences` R133, R134). -/
def awaited : Phase → Option Cap
  | .tempM => some .lsb
  | .tempH => some .msb
  | .tempSample => some .hsb
  | .faultsSample => some .sr
  | .idle | .rd _ | .wr _ _ | .initCr0 _ | .initCr1 _ | .tempL | .faultsSr => none

/-- The bytes that come before this one in the frame order L, M, H are flagged (`10_state` R22). -/
def EarlierFlagged (c : Cap) (s : State) : Prop :=
  match c with
  | .lsb | .sr => True
  | .msb => s.v2 = true
  | .hsb => s.v2 = true ∧ s.v1 = true

/-- `QueryProgress`, said once for all acts of both queries. -/
theorem queryProgress_iff (s : State) :
    QueryProgress s ↔ ∀ c, awaited s.phase = some c →
      EarlierFlagged c s ∧ (OnePending (capTag c) s ∨ s.input = [] ∧ valid c s = true) := by
  unfold QueryProgress
  cases hp : s.phase <;> simp [awaited, EarlierFlagged, capTag, valid] <;> tauto

theorem queryProgress_of_not_awaited {s : State} (h : awaited s.phase = none) : QueryProgress s := by
  simp [queryProgress_iff, h]

theorem earlierFlagged_of_sameBlock {c : Cap} {s t : State} (h : SameBlock t s) (hs : EarlierFlagged c s) :
    EarlierFlagged c t := by
  cases c with
  | lsb => trivial
  | msb => exact h.v2.trans hs
  | hsb => exact ⟨h.v2.trans hs.1, h.v1.trans hs.2⟩
  | sr => trivial

/-- A capture keeps the flags of the bytes before its own. -/
theorem earlierFlagged_capture {c : Cap} {d : Byte} {s : State} (h : EarlierFlagged c s) :
    EarlierFlagged c (capture c d s) := by
  cases c <;> exact h

theorem valid_capture_same (c : Cap) (d : Byte) (s : State) : valid c (capture c d s) = true :=
  valid_markCaptured_same c _

/-- A step that takes what stands at the port leaves the host's phase. -/
theorem step_phase_of_input {s t : State} (ht : s.tfd = true) (hi : s.input ≠ []) (h : step s = .next t) :
    t.phase = s.phase := by
  rcases step_cases h with ⟨_, _, _, _, _, rfl⟩ | ⟨_, _, _, rfl⟩ | ⟨_, _, rfl⟩ | ⟨p, rest, _, rfl⟩ | ⟨he, _⟩ | ⟨hf, _⟩
  · simp
  · rfl
  · rfl
  · exact (sameHost_samplePort p (takeInput rest s)).phase
  · exact absurd he hi
  · simp [ht] at hf

/-- While a query's record is at the port, the step captures it: its byte is flagged, and those before it still are. -/
theorem queryProgress_of_input {s t : State} (ht : s.tfd = true) (hi : s.input ≠ []) (hq : QueryProgress s)
    (h : step s = .next t) : QueryProgress t := by
  rw [queryProgress_iff] at hq ⊢
  intro c hc
  rw [step_phase_of_input ht hi h] at hc
  obtain ⟨hearlier, ⟨d, hd⟩ | ⟨hempty, -⟩⟩ := hq c hc
  · rw [step_of_captureRecord ht hd] at h
    cases h
    exact ⟨earlierFlagged_capture hearlier, .inr ⟨by simp, valid_capture_same c d _⟩⟩
  · exact absurd hempty hi

/-- A transaction that completes leaves an awaited byte only if it is the read of a query for it. -/
theorem captureRead_of_awaited {rx1 : Byte} {s : State} {tx : Byte × Byte} {c : Cap} (htx : busRequest s.phase = some tx)
    (hc : awaited (advanceHost rx1 s).phase = some c) : captureRead s.phase = some (c, (advanceHost rx1 s).phase) := by
  unfold advanceHost at hc ⊢
  cases hp : s.phase <;> simp_all [busRequest, awaited, captureRead]

/-- With nothing at the port, the bytes before the one that is read next are flagged. -/
theorem earlierFlagged_of_captureRead {s : State} {c : Cap} {p' : Phase} (hi : s.input = []) (hq : QueryProgress s)
    (hr : captureRead s.phase = some (c, p')) : EarlierFlagged c s := by
  unfold QueryProgress at hq
  cases hp : s.phase <;> rw [hp] at hr <;> cases hr <;> simp_all [EarlierFlagged, OnePending]

theorem queryProgress_completeXfer {s : State} {x : Xfer} (hi : s.input = []) (hq : QueryProgress s)
    (htx : busRequest s.phase = some (x.tx0, x.tx1)) : QueryProgress (completeXfer x s) := by
  rw [queryProgress_iff]
  intro c hc
  have hr : captureRead s.phase = some (c, (completeXfer x s).phase) := captureRead_of_awaited (by exact htx) hc
  have htag : x.tx0 = capTag c := by
    have h := htx.symm.trans (busRequest_of_captureRead hr)
    exact congrArg Prod.fst (Option.some.inj h)
  refine ⟨earlierFlagged_of_sameBlock (completeXfer_sameBlock x s) (earlierFlagged_of_captureRead hi hq hr), .inl ?_⟩
  exact ⟨xferData x, by rw [completeXfer_input, hi, htag]; rfl⟩

/-- A program line ends with no byte awaited, since a query begins with a read. -/
theorem startOp_not_awaited {op : HostOp} {s t : State} (hp : s.phase = .idle) (h : startOp op s = .next t) :
    awaited t.phase = none := by
  rcases startOp_cases h with ⟨_, _, _, rfl⟩ | ⟨_, _, _, _, _, rfl⟩ | ⟨_, _, _, rfl⟩ | ⟨_, rfl⟩ | ⟨p, _, rfl⟩ |
    ⟨_, hinit⟩ | ⟨_, _, rfl⟩ | ⟨_, _, rfl⟩ | ⟨_, _, rfl⟩
  case inr.inr.inr.inr.inr.inl =>
    obtain ⟨_, _, _, rfl⟩ := startInit_cases hinit
    rfl
  case inr.inr.inr.inr.inl => rw [(sameHost_samplePort p s).phase, hp]; rfl
  case inr.inr.inl => rw [deliver_phase, hp]; rfl
  case inr.inr.inr.inl => rw [deliverReset_phase, hp]; rfl
  all_goals rfl

theorem queryProgress_hostAct {s t : State} (hq : QueryProgress s) (hn : busRequest s.phase = none)
    (h : hostAct s = .next t) : QueryProgress t := by
  rcases hostAct_cases hn h with ⟨_, rfl⟩ | ⟨_, rfl⟩ | ⟨_, _, rfl⟩ | ⟨hp, _, _, _, hop⟩
  · exact trivial
  · exact trivial
  · exact hq
  · exact queryProgress_of_not_awaited (startOp_not_awaited (by exact hp) hop)

theorem queryProgress_samplePort {s : State} (hq : QueryProgress s) (p : Port) : QueryProgress (samplePort p s) := by
  rw [samplePort_frame]
  exact hq

/-- The environment's moves: a sampling touches nothing, a completed read of a query puts its record at the port, and every
other move waits, or ends or begins a sequence. -/
theorem queryProgress_envStep {s t : State} (hi : s.input = []) (hinv : QueryInv s) (h : envStep s = .next t) :
    QueryProgress t := by
  obtain ⟨hreset, hq⟩ := hinv
  rcases envStep_cases h with ⟨ev, he, rfl⟩ | ⟨p, ev, _, rfl⟩ | ⟨tx, _, _, ev, htx, _, rfl⟩ | ⟨_, ev, _, _, rfl⟩ |
    ⟨_, _, _, rfl⟩ | ⟨hn, _, _, hact⟩
  · simp [he] at hreset
  · exact queryProgress_samplePort (s := { s with events := ev }) hq p
  · exact queryProgress_completeXfer (s := { s with events := ev }) hi hq htx
  · rw [failXfer_frame]
    trivial
  · exact hq
  · exact queryProgress_hostAct hq hn hact

/-- A host without an instance has no query in progress after its move. -/
theorem queryProgress_absentStep {s t : State} (hq : QueryProgress s) (h : absentStep s = .next t) : QueryProgress t := by
  rcases absentStep_cases h with ⟨_, rfl⟩ | ⟨_, _, _, hc⟩
  · exact hq
  · rcases startConstruct_cases hc with ⟨_, rfl⟩ | ⟨_, _, rfl⟩
    · exact trivial
    · exact trivial

theorem envStep_events {s t : State} (h : envStep s = .next t) : t.events <:+ s.events := by
  rcases envStep_cases h with ⟨ev, he, rfl⟩ | ⟨p, ev, he, rfl⟩ | ⟨_, _, _, ev, _, he, rfl⟩ | ⟨_, ev, _, he, rfl⟩ |
    ⟨_, _, _, rfl⟩ | ⟨hn, _, _, hact⟩
  · exact he ▸ List.suffix_cons _ ev
  · rw [samplePort_frame, he]
    exact List.suffix_cons _ ev
  · rw [completeXfer, advanceHost_frame, he]
    exact List.suffix_cons _ ev
  · rw [failXfer_frame, he]
    exact List.suffix_cons _ ev
  · exact List.suffix_rfl
  · rcases hostAct_cases hn hact with ⟨_, rfl⟩ | ⟨_, rfl⟩ | ⟨_, _, rfl⟩ | ⟨_, _, _, _, hop⟩
    · exact List.suffix_rfl
    · exact List.suffix_rfl
    · exact List.suffix_rfl
    · rw [startOp_frame hop]

/-- What the outside will do is only ever taken from the front. -/
theorem step_events {s t : State} (h : step s = .next t) : t.events <:+ s.events := by
  rcases step_cases h with ⟨_, _, _, _, _, rfl⟩ | ⟨_, _, _, rfl⟩ | ⟨_, _, rfl⟩ | ⟨_, _, _, rfl⟩ | ⟨_, henv⟩ |
    ⟨_, _, habs⟩
  · simp
  · exact List.suffix_rfl
  · exact List.suffix_rfl
  · rw [samplePort_frame]
    exact List.suffix_rfl
  · exact envStep_events henv
  · rw [absentStep_frame habs]

/-- Settles O58: no step brings a reset event among the events; a query's record at the port is captured, and with nothing at the
port the environment's moves keep the progress. -/
theorem queryInvariantKept : Obligations.QueryInvariantKept := by
  intro s t hinv h
  refine ⟨fun hmem => hinv.noReset ((step_events h).mem hmem), ?_⟩
  rcases step_next h with ⟨ht, -⟩ | ⟨-, -, habs⟩
  · by_cases hi : s.input = []
    · exact queryProgress_envStep hi hinv ((step_of_empty ht hi).symm.trans h)
    · exact queryProgress_of_input ht hi hinv.progress h
  · exact queryProgress_absentStep hinv.progress habs

/-- Settles O57: no event is to come and no query is in progress in any of the three states. -/
theorem queryInvariantAtReset : Obligations.QueryInvariantAtReset :=
  ⟨⟨List.not_mem_nil, trivial⟩, fun _ => ⟨⟨List.not_mem_nil, trivial⟩, fun _ => ⟨List.not_mem_nil, trivial⟩⟩⟩

/-- The asserts of the queries: with nothing at the port, the byte read last is captured and flagged, and so are
those before it. -/
theorem safeUse_of_queryProgress {s : State} (h : QueryProgress s) : SafeUse s := by
  rw [queryProgress_iff] at h
  constructor
  · intro hi hp
    obtain ⟨⟨hv2, hv1⟩, ⟨d, hd⟩ | ⟨-, hv0⟩⟩ := h .hsb (by rw [hp]; rfl)
    · simp [hi] at hd
    · simp_all [portTOk, valid]
  · intro hi hp
    obtain ⟨-, ⟨d, hd⟩ | ⟨-, hv3⟩⟩ := h .sr (by rw [hp]; rfl)
    · simp [hi] at hd
    · exact hv3

/-- Settles O59: the OK bit of `safeUse_of_queryProgress` makes the result of the sampling the decode of the registers. -/
theorem queriesSampleValidPorts : Obligations.QueriesSampleValidPorts := by
  intro s hinv
  have hsafe : SafeUse s := safeUse_of_queryProgress hinv.progress
  refine ⟨hsafe, fun ht hi he hp => ⟨_, step_of_tempSample ht hi he hp, ?_⟩,
    fun ht hi he hp => ⟨_, step_of_faultsSample ht hi he hp, ?_⟩⟩
  · rw [finishTemp_of_ok (hsafe.temperature hi hp)]
  · rw [finishFaults_of_ok (hsafe.faults hi hp)]

end Sys2Proof.Safety

/-! The obligations of `43_temperature_decode`: TDEC is the sign-extended field (R141), its arithmetic, range and weights
(R142, R143, R147, R148), port `T` (R144, R146), the round trip of a temperature (R150) and the concrete case (R140, C1). -/

namespace Sys2Proof.Safety

open Sys2Proof.Machine

/-! ## The field of three bytes -/

/-- `W[23:5]` of the unmasked word is the three bytes without the five low bits. -/
theorem word24_field (l m h : Byte) : (word24 l m h).extractLsb' 5 19 = h ++ m ++ l.extractLsb' 5 3 := by
  have hh := h.isLt
  have hm := m.isLt
  have hl := l.isLt
  apply BitVec.eq_of_toNat_eq
  rw [BitVec.extractLsb'_toNat, Nat.shiftRight_eq_div_pow, word24_toNat, field_toNat]
  omega

/-- TDEC is the field as a signed number: a block that holds the three bytes drives the field on port `T`. -/
theorem tdec_eq_field_toInt (l m h : Byte) : tdec l m h = (h ++ m ++ l.extractLsb' 5 3 : Field).toInt :=
  (portT_toInt_eq_tdec { State.reset with x0 := h, x1 := m, x2 := l }).symm

/-- The sign bit of the field is that of the high byte. -/
theorem field_sign (l m h : Byte) : (h ++ m ++ l.extractLsb' 5 3 : Field).getLsbD 18 = h.getLsbD 7 := by
  have hmsb : (h ++ m ++ l.extractLsb' 5 3 : Field).msb = h.msb :=
    (BitVec.msb_append (x := h ++ m)).trans BitVec.msb_append
  rwa [BitVec.msb_eq_getLsbD_last, BitVec.msb_eq_getLsbD_last] at hmsb

/-- The magnitude is the field without its sign bit. -/
theorem tdecMagnitude_eq_field (l m h : Byte) :
    (tdecMagnitude l m h : Int) =
      ((h ++ m ++ l.extractLsb' 5 3 : Field).toNat : Int) - 262144 * (h.getLsbD 7).toNat := by
  rw [tdecMagnitude_number, field_toNat, (highByte_parts h).1]
  omega

/-- The count is the magnitude less the weight of the sign bit. -/
theorem tdec_eq_magnitude_sub (l m h : Byte) :
    tdec l m h = (tdecMagnitude l m h : Int) - 262144 * (h.getLsbD 7).toNat := by
  rw [tdec_number, tdecMagnitude_number, (highByte_parts h).1]
  omega

/-- Settles O23: the magnitude and the count each lose the sign bit's 2^18 once. -/
theorem tdecIsTheSignExtendedField : Obligations.TdecIsTheSignExtendedField := by
  intro l m h
  have hmag := tdecMagnitude_eq_field l m h
  rw [word24_field]
  refine ⟨tdec_eq_field_toInt l m h, rfl, field_sign l m h, hmag, ?_⟩
  rw [tdec_eq_magnitude_sub, hmag]
  omega

/-! ## Range and resolution -/

theorem tdecMagnitude_le (l m h : Byte) : tdecMagnitude l m h ≤ 262143 := by
  have hm := m.isLt
  have hl := l.isLt
  rw [tdecMagnitude_number]
  omega

theorem tdec_range (l m h : Byte) : -262144 ≤ tdec l m h ∧ tdec l m h ≤ 262143 := by
  have hmag := tdecMagnitude_le l m h
  have hsign := (h.getLsbD 7).toNat_le
  rw [tdec_eq_magnitude_sub]
  omega

/-- Every count of the field is decoded from the bytes that ENC lays out (`43_temperature_decode` R150). -/
theorem tdec_encBytes {n : Int} (hlo : -262144 ≤ n) (hhi : n ≤ 262143) :
    tdec (encLsb n) (encMsb n) (encHsb n) = n := by
  obtain ⟨hhsb, hmsb, hlsb⟩ := encBytes_toNat n
  rw [tdec_number, hhsb, hmsb, hlsb]
  omega

theorem celsius_eq_div (n : Int) : celsius n = (n : Rat) / 128 := by simp [celsius, Config.countsPerDegree]

/-- Settles O24: the bounds in degrees are those in counts, scaled. -/
theorem tdecRangeIsExactlyTheField : Obligations.TdecRangeIsExactlyTheField := by
  refine ⟨fun l m h => ?_, fun n hlo hhi => ⟨_, _, _, tdec_encBytes hlo hhi⟩, fun n => ?_⟩
  · obtain ⟨hlo, hhi⟩ := tdec_range l m h
    have hloRat : (-262144 : Rat) ≤ tdec l m h := by exact_mod_cast hlo
    have hhiRat : (tdec l m h : Rat) ≤ 262143 := by exact_mod_cast hhi
    rw [celsius_eq_div]
    exact ⟨hlo, hhi, by linarith, by linarith⟩
  · rw [celsius_eq_div, celsius_eq_div]
    push_cast
    ring

/-! ## Port `T` -/

/-- Settles O28: `portT_toInt_eq_tdec` asks nothing of the flags. -/
theorem portTIsTdecOfTheRegisters : Obligations.PortTIsTdecOfTheRegisters := fun s =>
  ⟨portT_toInt_eq_tdec s, portT_eq_append s⟩

/-- Settles O29: the pattern of port `T` names the three registers alone. -/
theorem portTDependsOnThreeBytesAlone : Obligations.PortTDependsOnThreeBytesAlone := by
  intro s t h0 h1 h2
  rw [portT_eq_append, portT_eq_append, h0, h1, h2]

/-- Settles O25: both the count and the port are the field, which holds bits 7:5 of the low byte alone. -/
theorem tdecIgnoresTheDiscardedBits : Obligations.TdecIgnoresTheDiscardedBits := by
  intro a b m h s hbits
  constructor
  · rw [tdec_eq_field_toInt, tdec_eq_field_toInt, hbits]
  · simp only [portT_eq_append, hbits]

/-! ## The integer arithmetic -/

/-- The composed value of step 1 in a 32-bit word. -/
def compose32 (l m h : Byte) : BitVec 32 :=
  ((h &&& 0x7F).zeroExtend 32 <<< 16) ||| (m.zeroExtend 32 <<< 8) ||| l.zeroExtend 32

theorem tdecCompose_le (l m h : Byte) : tdecCompose l m h ≤ 0x7FFFFF := by
  have hm := m.isLt
  have hl := l.isLt
  rw [tdecCompose_number]
  omega

/-- A byte shifted left by at most 24 keeps its bits in a 32-bit word. -/
theorem byte_shiftLeft_toNat (b : Byte) {k : Nat} (hk : k ≤ 24) : (b.zeroExtend 32 <<< k).toNat = b.toNat <<< k := by
  have hb := b.isLt
  have hfits : b.toNat <<< k < 2 ^ 32 := calc
    b.toNat <<< k = b.toNat * 2 ^ k := Nat.shiftLeft_eq _ _
    _ < 2 ^ 8 * 2 ^ 24 := Nat.mul_lt_mul_of_lt_of_le hb (Nat.pow_le_pow_right (by decide) hk) (by decide)
  rw [BitVec.toNat_shiftLeft, BitVec.toNat_setWidth_of_le (by decide), Nat.mod_eq_of_lt hfits]

/-- No bit of the composed value is lost in 32 bits. -/
theorem compose32_toNat (l m h : Byte) : (compose32 l m h).toNat = tdecCompose l m h := by
  rw [compose32, BitVec.toNat_or, BitVec.toNat_or, byte_shiftLeft_toNat _ (by decide), byte_shiftLeft_toNat _ (by decide),
    BitVec.toNat_setWidth_of_le (by decide), tdecCompose]

theorem compose32_toInt (l m h : Byte) : (compose32 l m h).toInt = tdecCompose l m h := by
  have hbound := tdecCompose_le l m h
  rw [BitVec.toInt_eq_toNat_of_lt (by rw [compose32_toNat]; omega), compose32_toNat]

theorem tdecMagnitude_eq_div (l m h : Byte) : tdecMagnitude l m h = tdecCompose l m h / 32 := by
  rw [tdecMagnitude, Nat.shiftRight_eq_div_pow]
  rfl

/-- TDEC in 32-bit signed arithmetic: the shift and the subtraction do not wrap. -/
theorem tdec_of_word32 (l m h : Byte) :
    ((compose32 l m h).sshiftRight 5 - (if h.getLsbD 7 then 262144#32 else 0#32)).toInt = tdec l m h := by
  have hmag : ((compose32 l m h).sshiftRight 5).toInt = tdecMagnitude l m h := by
    rw [BitVec.toInt_sshiftRight, compose32_toInt, tdecMagnitude_eq_div, Int.shiftRight_eq_div_pow]
    rfl
  have hsign : (if h.getLsbD 7 then 262144#32 else 0#32).toInt = 262144 * ((h.getLsbD 7).toNat : Int) := by
    cases h.getLsbD 7 <;> rfl
  obtain ⟨hlo, hhi⟩ := tdec_range l m h
  rw [BitVec.toInt_sub, hmag, hsign, ← tdec_eq_magnitude_sub]
  exact Int.bmod_eq_of_le (by omega) (by omega)

/-- Settles O26: every bound follows from the three bytes as numbers. -/
theorem tdecIntermediateBounds : Obligations.TdecIntermediateBounds := by
  intro l m h
  obtain ⟨-, hmask, -⟩ := highByte_parts h
  have hm := m.isLt
  have hl := l.isLt
  obtain ⟨hlo, hhi⟩ := tdec_range l m h
  refine ⟨by omega, ?_, ?_, by omega, ?_, tdecCompose_le l m h, tdecMagnitude_eq_div l m h, tdecMagnitude_le l m h,
    tdec_eq_magnitude_sub l m h, hlo, hhi, tdec_of_word32 l m h⟩
  · rw [Nat.shiftLeft_eq]
    omega
  · rw [Nat.shiftLeft_eq]
    omega
  · rw [tdecCompose_number, hmask]

/-! ## The weights of the bits -/

/-- A byte is the sum of the weights of its set bits. -/
theorem byte_toNat_eq_bits : ∀ b : Byte,
    b.toNat = 128 * (b.getLsbD 7).toNat + 64 * (b.getLsbD 6).toNat + 32 * (b.getLsbD 5).toNat +
      16 * (b.getLsbD 4).toNat + 8 * (b.getLsbD 3).toNat + 4 * (b.getLsbD 2).toNat + 2 * (b.getLsbD 1).toNat +
      (b.getLsbD 0).toNat := by
  decide

/-- The bits of a byte that survive the shift by 5. -/
theorem byte_div_32_eq_bits : ∀ b : Byte,
    b.toNat / 32 = 4 * (b.getLsbD 7).toNat + 2 * (b.getLsbD 6).toNat + (b.getLsbD 5).toNat := by
  decide

/-- Settles O27: the bits of each byte in the count, whose weights are 128 times those in degrees. -/
theorem temperatureIsTheSumOfBitWeights : Obligations.TemperatureIsTheSumOfBitWeights := by
  intro l m h
  refine ⟨celsius_eq_div _, ?_⟩
  rw [celsius_eq_div, tdec_number, ← (highByte_parts h).1, byte_div_32_eq_bits l, byte_toNat_eq_bits m,
    byte_toNat_eq_bits h]
  push_cast
  ring

/-! ## The encoder -/

theorem encCount_eq_floor (t : Rat) : encCount t = ⌊t * 128⌋ := rfl

/-- A count encodes to itself. -/
theorem encCount_celsius (k : Int) : encCount (celsius k) = k := by
  rw [encCount_eq_floor, celsius_eq_div, div_mul_cancel₀ _ (by norm_num), Int.floor_intCast]

/-- ENC rounds down by less than one count. -/
theorem encCount_bounds (t : Rat) : (encCount t : Rat) ≤ t * 128 ∧ t * 128 < encCount t + 1 := by
  rw [encCount_eq_floor]
  exact ⟨Int.floor_le _, Int.lt_floor_add_one _⟩

theorem encCount_range {t : Rat} (hlo : -2048 ≤ t) (hhi : t < 2048) :
    -262144 ≤ encCount t ∧ encCount t ≤ 262143 := by
  rw [encCount_eq_floor]
  constructor
  · rw [Int.le_floor]
    push_cast
    linarith
  · rw [← Int.lt_add_one_iff, Int.floor_lt]
    push_cast
    linarith

/-- Settles O30: the count is in range, so its bytes decode to it, and it is the floor. -/
theorem encodeTemperatureRoundTrip : Obligations.EncodeTemperatureRoundTrip := by
  intro t hlo hhi
  obtain ⟨hmin, hmax⟩ := encCount_range hlo hhi
  obtain ⟨hfloor, hnext⟩ := encCount_bounds t
  refine ⟨hmin, hmax, tdec_encBytes hmin hmax, ?_, ?_, fun k hk => ?_⟩
  · rw [celsius_eq_div]
    linarith
  · rw [celsius_eq_div]
    linarith
  · rw [hk, encCount_celsius]

/-! ## The concrete case -/

/-- Settles O31: the three steps on the bytes, then the scale. -/
theorem concreteCaseIs400Degrees : Obligations.ConcreteCaseIs400Degrees := by
  have hcase : tdec 0x00 0x00 0x19 = 51200 := rfl
  have hhundred : tdec 0x00 0x40 0x06 = 12800 := rfl
  refine ⟨rfl, rfl, hcase, ?_, ?_⟩
  · rw [hcase, celsius_eq_div]
    norm_num
  · rw [hhundred, celsius_eq_div]
    norm_num

end Sys2Proof.Safety

/-! The obligations of `44_fault_decode`: FDEC lists the set bits in order (R151), its labels (R153), ports `F`, `F_OK` and
`FCNT` (R154, R155), the empty list (R156), monotonicity (R157) and what a fault leaves alone (R158). -/

namespace Sys2Proof.Safety

open Sys2Proof.Machine

/-! ## The lines of the list -/

/-- R151's mask keeps one bit of the byte, so its test reads that bit. -/
theorem faultActive_eq_getLsbD (b : Byte) (l : FaultLine) : faultActive b l = b.getLsbD (faultIndex l) := by
  have hmask : b &&& (1#8 <<< faultIndex l) = if b.getLsbD (faultIndex l) then 1#8 <<< faultIndex l else 0#8 := by
    rw [← BitVec.twoPow_eq, BitVec.and_twoPow]
  have hone : 1#8 <<< faultIndex l ≠ 0#8 := by cases l <;> decide
  rw [faultActive, hmask]
  cases b.getLsbD (faultIndex l) <;> simp [hone]

theorem mem_faultLines (l : FaultLine) : l ∈ faultLines := by cases l <;> decide

/-- Each bit of a byte has its line (R152). -/
theorem exists_faultIndex_eq : ∀ i < 8, ∃ l ∈ faultLines, faultIndex l = i := by decide

theorem faultLines_ascending : faultLines.Pairwise fun k l => faultIndex k < faultIndex l := by decide

theorem fdec_sublist_faultLines (b : Byte) : (fdec b).Sublist faultLines := List.filter_sublist

theorem mem_fdec (b : Byte) (l : FaultLine) : l ∈ fdec b ↔ b.getLsbD (faultIndex l) = true := by
  rw [fdec, List.mem_filter, faultActive_eq_getLsbD, and_iff_right (mem_faultLines l)]

/-- Settles O32: the list is the lines in bit order, less those whose bit is not set. -/
theorem fdecListsTheSetBitsInOrder : Obligations.FdecListsTheSetBitsInOrder := fun b _ =>
  ⟨faultLines_ascending.sublist (fdec_sublist_faultLines b), mem_fdec b, (fdec_sublist_faultLines b).length_le, rfl⟩

/-! ## A superset of the bits -/

theorem getLsbD_of_subset {a b : Byte} (h : a &&& b = a) {i : Nat} (hi : a.getLsbD i = true) : b.getLsbD i = true := by
  rw [← h, BitVec.getLsbD_and, Bool.and_eq_true] at hi
  exact hi.2

/-- Both lists filter the same lines, and the second test holds wherever the first does. -/
theorem fdec_sublist_of_subset {a b : Byte} (h : a &&& b = a) : (fdec a).Sublist (fdec b) := by
  apply List.monotone_filter_right
  intro l hl
  rw [faultActive_eq_getLsbD] at hl ⊢
  exact getLsbD_of_subset h hl

/-- Settles O33: the lists, the labels as their images, and the two bytes that bit count does not order. -/
theorem fdecIsMonotone : Obligations.FdecIsMonotone :=
  ⟨fun _ _ p h => ⟨fdec_sublist_of_subset h, (fdec_sublist_of_subset h).map (faultLabel p)⟩, by decide⟩

/-! ## The ports of the fault byte -/

/-- The list holds one line for each set bit. -/
theorem fdec_length (b : Byte) : (fdec b).length = popcount b := by
  have hbit (l : FaultLine) : (if faultActive b l = true then 1 else 0) = (b.getLsbD (faultIndex l)).toNat := by
    rw [faultActive_eq_getLsbD]
    cases b.getLsbD (faultIndex l) <;> rfl
  rw [fdec, ← List.countP_eq_length_filter]
  simp only [faultLines, List.countP_cons, List.countP_nil, hbit, Nat.zero_add]
  simp only [faultIndex, popcount, BitVec.getLsbD_eq_getElem, Nat.reduceLT]
  omega

/-- Settles O34: the four bits of the port hold the count, which is the length of the list. -/
theorem fcntIsTheLengthOfTheList : Obligations.FcntIsTheLengthOfTheList := fun s =>
  ⟨portFcnt_toNat s, (portFcnt_toNat s).trans (fdec_length s.x3).symm, (portFcnt_toNat s).trans_le (popcount_le s.x3)⟩

/-- The list tells every bit of the byte. -/
theorem fdec_injective : Function.Injective fdec := by
  intro a b h
  apply BitVec.eq_of_getLsbD_eq
  intro i hi
  obtain ⟨l, -, rfl⟩ := exists_faultIndex_eq i hi
  rw [Bool.eq_iff_iff, ← mem_fdec, ← mem_fdec, h]

/-- Settles O35: a line is the bit that `mem_fdec` reads, and the list loses none. -/
theorem faultPortsCarryTheList : Obligations.FaultPortsCarryTheList :=
  ⟨fun s => ⟨rfl, rfl, fun l => (mem_fdec (portF s) l).symm⟩, fun _ _ h => fdec_injective h⟩

/-! ## The empty list -/

theorem fdec_eq_nil_iff (b : Byte) : fdec b = [] ↔ b = 0 := by
  have hzero : fdec 0 = [] := rfl
  rw [← hzero, fdec_injective.eq_iff]

/-- Settles O36: no other byte has the list of 0x00, a capture sets the flag, and no launch does. -/
theorem emptyFaultListIsAResult : Obligations.EmptyFaultListIsAResult := by
  have hnone : popcount 0x00 = 0 := by decide
  exact ⟨fdec_eq_nil_iff, fun s => ⟨capture .sr 0x00 s, rfl, rfl, congrArg (BitVec.ofNat 4) hnone, rfl⟩, fun _ _ => rfl⟩

/-! ## The labels -/

/-- Settles O37: the lines of the two bytes, and the table applied last. -/
theorem faultLabelTable : Obligations.FaultLabelTable := by
  have htwo : fdec 0x05 = [.fOpen, .fTclow] := rfl
  have hall : fdec 0xFF = faultLines := rfl
  refine ⟨fun p => ?_, ?_⟩
  · rw [fdecLabels, htwo]
    rfl
  · rw [fdecLabels, hall]
    rfl

/-! ## A fault is data -/

/-- Settles O38: the ports of the temperature read neither the fourth register nor its flag, and every record completes. -/
theorem faultByteLeavesTheTemperature : Obligations.FaultByteLeavesTheTemperature := by
  intro s b f
  refine ⟨rfl, rfl, rfl, fun i => ?_⟩
  obtain ⟨t, hnext, -⟩ := recordsCompleteAndTouchOnlyTheBlock i { s with x3 := b, v3 := f }
  exact ⟨t, hnext⟩

end Sys2Proof.Safety

/-! The obligation of `60_exceptions`: a transaction that fails, and one that never ends (R161). -/

namespace Sys2Proof.Safety

open Sys2Proof.Machine

/-- The transaction that is due fails when the failure comes first. -/
theorem step_of_fail {s : State} {tx : Byte × Byte} {ev : List Event} (ht : s.tfd = true) (hi : s.input = [])
    (htx : busRequest s.phase = some tx) (he : s.events = .fail :: ev) :
    step s = .next (failXfer { s with events := ev }) := by
  rw [step_of_empty ht hi, envStep_of_fail htx he]

/-- A transaction that is due blocks the host while nothing is to come (item U9). -/
theorem step_of_waiting {s : State} {tx : Byte × Byte} (ht : s.tfd = true) (hi : s.input = [])
    (htx : busRequest s.phase = some tx) (he : s.events = []) : step s = .next s := by
  rw [step_of_empty ht hi]
  unfold envStep
  rw [htx, he]

/-- Settles O44: the step is `failXfer`, which ends the instance inside `INIT` and only the sequence elsewhere; with nothing to
come it is the wait. -/
theorem transportFailureEffect : Obligations.TransportFailureEffect := by
  refine ⟨fun s tx ev ht hi htx he => ⟨_, step_of_fail ht hi htx he, ?_⟩, fun _ _ => step_of_waiting⟩
  refine ⟨(envStep_sameBlock (envStep_of_fail htx he)).symm, ?_⟩
  cases hinit : inInit s.phase with
  | true =>
    rw [failXfer_of_init (s := { s with events := ev }) hinit]
    exact ⟨hi, rfl, rfl, rfl, rfl, rfl, rfl, rfl, rfl, rfl⟩
  | false =>
    rw [failXfer_of_not_init (s := { s with events := ev }) hinit]
    exact ⟨hi, rfl, rfl, rfl, rfl, rfl, rfl, rfl, rfl, ht⟩

end Sys2Proof.Safety

/-! The obligations of `70_reset_and_hazards`: construction and its check (R182), the reset event, and the reset of the outside
that may come between any two records of the host (R180). -/

namespace Sys2Proof.Safety

open Sys2Proof.Machine

/-! ## The configuration check -/

theorem exists_tcCode_eq : ∀ n ≤ 7, ∃ tc, (tcCode tc).toNat = n
  | 0, _ => ⟨.b, rfl⟩
  | 1, _ => ⟨.e, rfl⟩
  | 2, _ => ⟨.j, rfl⟩
  | 3, _ => ⟨.k, rfl⟩
  | 4, _ => ⟨.n, rfl⟩
  | 5, _ => ⟨.r, rfl⟩
  | 6, _ => ⟨.s, rfl⟩
  | 7, _ => ⟨.t, rfl⟩
  | _ + 8, h => absurd h (by omega)

/-- A code above 7 names no type: it is not masked (`42_host_sequences` R136). -/
theorem tcOfCode_of_gt : ∀ {n : Nat}, 7 < n → tcOfCode n = none
  | _ + 8, _ => rfl

theorem checkConfig_of_bad_code {c : ConfigRequest} (h : 7 < c.tcCode) : checkConfig c = none := by
  rw [checkConfig, tcOfCode_of_gt h]

theorem checkConfig_of_negative_id {c : ConfigRequest} (h : c.busId < 0 ∨ c.deviceId < 0) : checkConfig c = none := by
  have hid : ¬ (0 ≤ c.busId ∧ 0 ≤ c.deviceId) := by omega
  unfold checkConfig
  split
  · rfl
  · rw [if_neg hid]

/-- A request that passes is checked to the type whose code it holds. -/
theorem checkConfig_of_code {c : ConfigRequest} {tc : TcType} (hc : (tcCode tc).toNat = c.tcCode) (hb : 0 ≤ c.busId)
    (hd : 0 ≤ c.deviceId) : checkConfig c = some ⟨c.busId.toNat, c.deviceId.toNat, tc⟩ := by
  unfold checkConfig
  rw [← hc, tcOfCode_tcCode]
  exact if_pos ⟨hb, hd⟩

/-! ## Construction -/

/-- Before construction the line `construct` begins. -/
theorem step_of_construct {s : State} {c : ConfigRequest} {ops : List HostOp} (ht : s.tfd = false) (hm : s.mode = .absent)
    (htodo : s.todo = .construct c :: ops) : step s = startConstruct c { s with todo := ops } := by
  rw [step_of_absent ht hm, absentStep, htodo]

theorem step_of_construct_rejected {s : State} {c : ConfigRequest} {ops : List HostOp} (ht : s.tfd = false)
    (hm : s.mode = .absent) (htodo : s.todo = .construct c :: ops) (hc : checkConfig c = none) :
    step s = .next (giveBack .invalidConfiguration (endInstance { s with todo := ops })) := by
  rw [step_of_construct ht hm htodo, startConstruct, hc]

theorem step_of_construct_accepted {s : State} {c : ConfigRequest} {cfg : DeviceConfig} {ops : List HostOp}
    (ht : s.tfd = false) (hm : s.mode = .absent) (htodo : s.todo = .construct c :: ops) (hc : checkConfig c = some cfg) :
    step s = .next (createInstance cfg { s with todo := ops }) := by
  rw [step_of_construct ht hm htodo, startConstruct, hc]

/-- Settles O46: the check alone decides whether the line ends the construction or creates the instance. -/
theorem invalidConfigurationIsRejected : Obligations.InvalidConfigurationIsRejected := by
  refine ⟨fun s c ops ht hm htodo => ⟨fun hbad => ?_, fun hcode hb hd => ?_⟩, fun rx c cfg hc => ?_⟩
  · have hc : checkConfig c = none := hbad.elim checkConfig_of_bad_code checkConfig_of_negative_id
    rw [step_of_construct_rejected ht hm htodo hc, giveBack, endInstance, ht]
  · obtain ⟨tc, htc⟩ := exists_tcCode_eq c.tcCode hcode
    exact ⟨tc, htc, step_of_construct_accepted ht hm htodo (checkConfig_of_code htc hb hd)⟩
  · exact step_of_construct_accepted (s := { State.unbuilt rx with todo := [.construct c] }) rfl rfl rfl hc

/-! ## The reset event -/

/-- Settles O20: the step is `blockReset` of what is left at the port, and each field of it is read off. -/
theorem resetEventEffect : Obligations.ResetEventEffect := fun _ _ ht hi =>
  ⟨_, step_of_resetEvent ht hi, rfl, rfl, rfl, rfl, rfl, rfl, rfl, rfl, ht, rfl, rfl, rfl, rfl, rfl⟩

/-- A reset event of the outside that comes first is delivered, whether a transaction is due or not. -/
theorem envStep_of_reset {s : State} {ev : List Event} (he : s.events = .reset :: ev) :
    envStep s = .next (deliverReset { s with events := ev }) := by
  unfold envStep
  rw [he]

/-- Settles O21: at the empty port the delivered reset event stands alone. -/
theorem outsideResetReachesThePort : Obligations.OutsideResetReachesThePort := by
  intro s ev ht hi he
  rw [step_of_empty ht hi, envStep_of_reset he, deliverReset, hi]
  rfl

end Sys2Proof.Safety
